-- ==== Sys2Proof/Word.lean ====
section
/-! DEFINITION. The machine's word types (00_scope.md R7, R14): the byte, the 16-bit address and the cycle count. -/

namespace Sys2Proof

/-- The one data type: every bus byte and the registers A, X, Y, SP and P (00_scope.md R7, R14). -/
abbrev Byte := BitVec 8

/-- A 16-bit bus address, and the value of PC (00_scope.md R7). -/
abbrev Word := BitVec 16

/-- The cycle total: 64 bits, unsigned (00_scope.md R7; 48_execute_loop.md R289). -/
abbrev CycleCount := BitVec 64

end Sys2Proof
end

