-- ==== Sys2Proof/Machine/Bits.lean ====
section
/-! DEFINITION. Bit fields, byte order and sign extension (00_scope.md R8, R9). -/

namespace Sys2Proof

/-- `hi(w)`, bits 15..8 (00_scope.md R9). -/
def highByte (w : Word) : Byte := w.extractLsb' 8 8

/-- `lo(w)`, bits 7..0 (00_scope.md R9). -/
def lowByte (w : Word) : Byte := w.extractLsb' 0 8

/-- `{h, l}`, the 16-bit value `h * 256 + l` (00_scope.md R9): little-endian memory holds `l` first (20_memory.md R74). -/
def joinBytes (h l : Byte) : Word := h ++ l

/-- `zext_16(v)` (00_scope.md R9). -/
def zeroExtend (v : Byte) : Word := v.setWidth 16

/-- `sext_8(v)` as a 16-bit two's-complement value (00_scope.md R9). -/
def signExtend (v : Byte) : Word := v.signExtend 16

/-- `page(w)`, `w & 0xFF00` (00_scope.md R9). -/
def page (w : Word) : Word := w &&& 0xFF00

end Sys2Proof
end

