-- ==== Sys2Proof/Syntax.lean ====
section
/-! DEFINITION. The instructions as syntax: the 56 mnemonics, the 13 addressing modes, the operand of each mode, and
one constructor of `Instr` for each of the 151 rows of spec/opcode_table.json (30_encoding.md R104). An operand is the
byte or the 16-bit value the instruction carries, with no scaling (R103). -/

namespace Sys2Proof

/-- The 56 mnemonics of 30_encoding.md R104, in the order of the section files 41 to 47. -/
inductive Mnemonic where
  -- 41 load and store
  | lda | ldx | ldy | sta | stx | sty
  -- 42 arithmetic
  | adc | sbc | cmp | cpx | cpy | inc | dec | inx | iny | dex | dey
  -- 43 logical
  | and | ora | eor | bit
  -- 44 shift and rotate
  | asl | lsr | rol | ror
  -- 45 control transfer
  | bpl | bmi | bvc | bvs | bcc | bcs | bne | beq | jmp | jsr | rts
  -- 46 stack and transfer
  | pha | php | pla | plp | tax | tay | txa | tya | tsx | txs
  -- 47 flags and system
  | clc | sec | cli | sei | cld | sed | clv | nop | brk | rti
deriving DecidableEq, Repr

/-- The 13 addressing modes (00_scope.md R3; 40_addressing_modes.md R131). -/
inductive Mode where
  | implied | accumulator | immediate | zeroPage | zeroPageX | zeroPageY
  | absolute | absoluteX | absoluteY | indirect | indexedIndirectX | indirectIndexedY | relative
deriving DecidableEq, Repr

/-- The operand width of a mode in bytes (40_addressing_modes.md R131, R147). -/
def Mode.width : Mode → Nat
  | .implied | .accumulator => 0
  | .immediate | .zeroPage | .zeroPageX | .zeroPageY | .indexedIndirectX | .indirectIndexedY | .relative => 1
  | .absolute | .absoluteX | .absoluteY | .indirect => 2

/-- The operand of an instruction that has a resolver (30_encoding.md R101, WithOperand): what its operand bytes hold,
one constructor for each of the eleven resolvers of 40_addressing_modes.md R132 to R142. -/
inductive Operand where
  /-- `#$nn`: the value itself (R132). -/
  | immediate (v : Byte)
  /-- `$nn`: a zero-page address (R133). -/
  | zeroPage (z : Byte)
  /-- `$nn,X` (R134). -/
  | zeroPageX (z : Byte)
  /-- `$nn,Y` (R135). -/
  | zeroPageY (z : Byte)
  /-- `$nnnn`: an address (R136). -/
  | absolute (a : Word)
  /-- `$nnnn,X` (R137). -/
  | absoluteX (a : Word)
  /-- `$nnnn,Y` (R138). -/
  | absoluteY (a : Word)
  /-- `($nnnn)`: the address of a pointer (R139). -/
  | indirect (p : Word)
  /-- `($nn,X)`: a zero-page pointer address before indexing (R140). -/
  | indexedIndirectX (z : Byte)
  /-- `($nn),Y`: a zero-page pointer address (R141). -/
  | indirectIndexedY (z : Byte)
  /-- `rel`: a signed branch offset (R142). -/
  | relative (o : Byte)
deriving DecidableEq, Repr

/-- One constructor for each row of spec/opcode_table.json: the mnemonic, then the mode where the mnemonic has more
than one. Its argument is the operand, one byte or one 16-bit value. -/
inductive Instr where
  | ldaImmediate (v : Byte)
  | ldaZeroPage (z : Byte)
  | ldaZeroPageX (z : Byte)
  | ldaAbsolute (a : Word)
  | ldaAbsoluteX (a : Word)
  | ldaAbsoluteY (a : Word)
  | ldaIndexedIndirectX (z : Byte)
  | ldaIndirectIndexedY (z : Byte)
  | ldxImmediate (v : Byte)
  | ldxZeroPage (z : Byte)
  | ldxZeroPageY (z : Byte)
  | ldxAbsolute (a : Word)
  | ldxAbsoluteY (a : Word)
  | ldyImmediate (v : Byte)
  | ldyZeroPage (z : Byte)
  | ldyZeroPageX (z : Byte)
  | ldyAbsolute (a : Word)
  | ldyAbsoluteX (a : Word)
  | staZeroPage (z : Byte)
  | staZeroPageX (z : Byte)
  | staAbsolute (a : Word)
  | staAbsoluteX (a : Word)
  | staAbsoluteY (a : Word)
  | staIndexedIndirectX (z : Byte)
  | staIndirectIndexedY (z : Byte)
  | stxZeroPage (z : Byte)
  | stxZeroPageY (z : Byte)
  | stxAbsolute (a : Word)
  | styZeroPage (z : Byte)
  | styZeroPageX (z : Byte)
  | styAbsolute (a : Word)
  | adcImmediate (v : Byte)
  | adcZeroPage (z : Byte)
  | adcZeroPageX (z : Byte)
  | adcAbsolute (a : Word)
  | adcAbsoluteX (a : Word)
  | adcAbsoluteY (a : Word)
  | adcIndexedIndirectX (z : Byte)
  | adcIndirectIndexedY (z : Byte)
  | sbcImmediate (v : Byte)
  | sbcZeroPage (z : Byte)
  | sbcZeroPageX (z : Byte)
  | sbcAbsolute (a : Word)
  | sbcAbsoluteX (a : Word)
  | sbcAbsoluteY (a : Word)
  | sbcIndexedIndirectX (z : Byte)
  | sbcIndirectIndexedY (z : Byte)
  | cmpImmediate (v : Byte)
  | cmpZeroPage (z : Byte)
  | cmpZeroPageX (z : Byte)
  | cmpAbsolute (a : Word)
  | cmpAbsoluteX (a : Word)
  | cmpAbsoluteY (a : Word)
  | cmpIndexedIndirectX (z : Byte)
  | cmpIndirectIndexedY (z : Byte)
  | cpxImmediate (v : Byte)
  | cpxZeroPage (z : Byte)
  | cpxAbsolute (a : Word)
  | cpyImmediate (v : Byte)
  | cpyZeroPage (z : Byte)
  | cpyAbsolute (a : Word)
  | incZeroPage (z : Byte)
  | incZeroPageX (z : Byte)
  | incAbsolute (a : Word)
  | incAbsoluteX (a : Word)
  | decZeroPage (z : Byte)
  | decZeroPageX (z : Byte)
  | decAbsolute (a : Word)
  | decAbsoluteX (a : Word)
  | inx
  | iny
  | dex
  | dey
  | andImmediate (v : Byte)
  | andZeroPage (z : Byte)
  | andZeroPageX (z : Byte)
  | andAbsolute (a : Word)
  | andAbsoluteX (a : Word)
  | andAbsoluteY (a : Word)
  | andIndexedIndirectX (z : Byte)
  | andIndirectIndexedY (z : Byte)
  | oraImmediate (v : Byte)
  | oraZeroPage (z : Byte)
  | oraZeroPageX (z : Byte)
  | oraAbsolute (a : Word)
  | oraAbsoluteX (a : Word)
  | oraAbsoluteY (a : Word)
  | oraIndexedIndirectX (z : Byte)
  | oraIndirectIndexedY (z : Byte)
  | eorImmediate (v : Byte)
  | eorZeroPage (z : Byte)
  | eorZeroPageX (z : Byte)
  | eorAbsolute (a : Word)
  | eorAbsoluteX (a : Word)
  | eorAbsoluteY (a : Word)
  | eorIndexedIndirectX (z : Byte)
  | eorIndirectIndexedY (z : Byte)
  | bitZeroPage (z : Byte)
  | bitAbsolute (a : Word)
  | aslAccumulator
  | aslZeroPage (z : Byte)
  | aslZeroPageX (z : Byte)
  | aslAbsolute (a : Word)
  | aslAbsoluteX (a : Word)
  | lsrAccumulator
  | lsrZeroPage (z : Byte)
  | lsrZeroPageX (z : Byte)
  | lsrAbsolute (a : Word)
  | lsrAbsoluteX (a : Word)
  | rolAccumulator
  | rolZeroPage (z : Byte)
  | rolZeroPageX (z : Byte)
  | rolAbsolute (a : Word)
  | rolAbsoluteX (a : Word)
  | rorAccumulator
  | rorZeroPage (z : Byte)
  | rorZeroPageX (z : Byte)
  | rorAbsolute (a : Word)
  | rorAbsoluteX (a : Word)
  | bpl (o : Byte)
  | bmi (o : Byte)
  | bvc (o : Byte)
  | bvs (o : Byte)
  | bcc (o : Byte)
  | bcs (o : Byte)
  | bne (o : Byte)
  | beq (o : Byte)
  | jmpAbsolute (a : Word)
  | jmpIndirect (p : Word)
  | jsr (a : Word)
  | rts
  | pha
  | php
  | pla
  | plp
  | tax
  | tay
  | txa
  | tya
  | tsx
  | txs
  | clc
  | sec
  | cli
  | sei
  | cld
  | sed
  | clv
  | nop
  | brk
  | rti
deriving DecidableEq, Repr

/-- The mnemonic of an instruction (30_encoding.md R104). -/
def Instr.mnemonic : Instr → Mnemonic
  | .ldaImmediate _ | .ldaZeroPage _ | .ldaZeroPageX _ | .ldaAbsolute _ | .ldaAbsoluteX _ | .ldaAbsoluteY _ | .ldaIndexedIndirectX _ | .ldaIndirectIndexedY _ => .lda
  | .ldxImmediate _ | .ldxZeroPage _ | .ldxZeroPageY _ | .ldxAbsolute _ | .ldxAbsoluteY _ => .ldx
  | .ldyImmediate _ | .ldyZeroPage _ | .ldyZeroPageX _ | .ldyAbsolute _ | .ldyAbsoluteX _ => .ldy
  | .staZeroPage _ | .staZeroPageX _ | .staAbsolute _ | .staAbsoluteX _ | .staAbsoluteY _ | .staIndexedIndirectX _ | .staIndirectIndexedY _ => .sta
  | .stxZeroPage _ | .stxZeroPageY _ | .stxAbsolute _ => .stx
  | .styZeroPage _ | .styZeroPageX _ | .styAbsolute _ => .sty
  | .adcImmediate _ | .adcZeroPage _ | .adcZeroPageX _ | .adcAbsolute _ | .adcAbsoluteX _ | .adcAbsoluteY _ | .adcIndexedIndirectX _ | .adcIndirectIndexedY _ => .adc
  | .sbcImmediate _ | .sbcZeroPage _ | .sbcZeroPageX _ | .sbcAbsolute _ | .sbcAbsoluteX _ | .sbcAbsoluteY _ | .sbcIndexedIndirectX _ | .sbcIndirectIndexedY _ => .sbc
  | .cmpImmediate _ | .cmpZeroPage _ | .cmpZeroPageX _ | .cmpAbsolute _ | .cmpAbsoluteX _ | .cmpAbsoluteY _ | .cmpIndexedIndirectX _ | .cmpIndirectIndexedY _ => .cmp
  | .cpxImmediate _ | .cpxZeroPage _ | .cpxAbsolute _ => .cpx
  | .cpyImmediate _ | .cpyZeroPage _ | .cpyAbsolute _ => .cpy
  | .incZeroPage _ | .incZeroPageX _ | .incAbsolute _ | .incAbsoluteX _ => .inc
  | .decZeroPage _ | .decZeroPageX _ | .decAbsolute _ | .decAbsoluteX _ => .dec
  | .inx => .inx
  | .iny => .iny
  | .dex => .dex
  | .dey => .dey
  | .andImmediate _ | .andZeroPage _ | .andZeroPageX _ | .andAbsolute _ | .andAbsoluteX _ | .andAbsoluteY _ | .andIndexedIndirectX _ | .andIndirectIndexedY _ => .and
  | .oraImmediate _ | .oraZeroPage _ | .oraZeroPageX _ | .oraAbsolute _ | .oraAbsoluteX _ | .oraAbsoluteY _ | .oraIndexedIndirectX _ | .oraIndirectIndexedY _ => .ora
  | .eorImmediate _ | .eorZeroPage _ | .eorZeroPageX _ | .eorAbsolute _ | .eorAbsoluteX _ | .eorAbsoluteY _ | .eorIndexedIndirectX _ | .eorIndirectIndexedY _ => .eor
  | .bitZeroPage _ | .bitAbsolute _ => .bit
  | .aslAccumulator | .aslZeroPage _ | .aslZeroPageX _ | .aslAbsolute _ | .aslAbsoluteX _ => .asl
  | .lsrAccumulator | .lsrZeroPage _ | .lsrZeroPageX _ | .lsrAbsolute _ | .lsrAbsoluteX _ => .lsr
  | .rolAccumulator | .rolZeroPage _ | .rolZeroPageX _ | .rolAbsolute _ | .rolAbsoluteX _ => .rol
  | .rorAccumulator | .rorZeroPage _ | .rorZeroPageX _ | .rorAbsolute _ | .rorAbsoluteX _ => .ror
  | .bpl _ => .bpl
  | .bmi _ => .bmi
  | .bvc _ => .bvc
  | .bvs _ => .bvs
  | .bcc _ => .bcc
  | .bcs _ => .bcs
  | .bne _ => .bne
  | .beq _ => .beq
  | .jmpAbsolute _ | .jmpIndirect _ => .jmp
  | .jsr _ => .jsr
  | .rts => .rts
  | .pha => .pha
  | .php => .php
  | .pla => .pla
  | .plp => .plp
  | .tax => .tax
  | .tay => .tay
  | .txa => .txa
  | .tya => .tya
  | .tsx => .tsx
  | .txs => .txs
  | .clc => .clc
  | .sec => .sec
  | .cli => .cli
  | .sei => .sei
  | .cld => .cld
  | .sed => .sed
  | .clv => .clv
  | .nop => .nop
  | .brk => .brk
  | .rti => .rti

/-- The addressing mode of an instruction (30_encoding.md R104). -/
def Instr.mode : Instr → Mode
  | .inx | .iny | .dex | .dey | .rts | .pha
  | .php | .pla | .plp | .tax | .tay | .txa
  | .tya | .tsx | .txs | .clc | .sec | .cli
  | .sei | .cld | .sed | .clv | .nop | .brk
  | .rti => .implied
  | .aslAccumulator | .lsrAccumulator | .rolAccumulator | .rorAccumulator => .accumulator
  | .ldaImmediate _ | .ldxImmediate _ | .ldyImmediate _ | .adcImmediate _ | .sbcImmediate _ | .cmpImmediate _
  | .cpxImmediate _ | .cpyImmediate _ | .andImmediate _ | .oraImmediate _ | .eorImmediate _ => .immediate
  | .ldaZeroPage _ | .ldxZeroPage _ | .ldyZeroPage _ | .staZeroPage _ | .stxZeroPage _ | .styZeroPage _
  | .adcZeroPage _ | .sbcZeroPage _ | .cmpZeroPage _ | .cpxZeroPage _ | .cpyZeroPage _ | .incZeroPage _
  | .decZeroPage _ | .andZeroPage _ | .oraZeroPage _ | .eorZeroPage _ | .bitZeroPage _ | .aslZeroPage _
  | .lsrZeroPage _ | .rolZeroPage _ | .rorZeroPage _ => .zeroPage
  | .ldaZeroPageX _ | .ldyZeroPageX _ | .staZeroPageX _ | .styZeroPageX _ | .adcZeroPageX _ | .sbcZeroPageX _
  | .cmpZeroPageX _ | .incZeroPageX _ | .decZeroPageX _ | .andZeroPageX _ | .oraZeroPageX _ | .eorZeroPageX _
  | .aslZeroPageX _ | .lsrZeroPageX _ | .rolZeroPageX _ | .rorZeroPageX _ => .zeroPageX
  | .ldxZeroPageY _ | .stxZeroPageY _ => .zeroPageY
  | .ldaAbsolute _ | .ldxAbsolute _ | .ldyAbsolute _ | .staAbsolute _ | .stxAbsolute _ | .styAbsolute _
  | .adcAbsolute _ | .sbcAbsolute _ | .cmpAbsolute _ | .cpxAbsolute _ | .cpyAbsolute _ | .incAbsolute _
  | .decAbsolute _ | .andAbsolute _ | .oraAbsolute _ | .eorAbsolute _ | .bitAbsolute _ | .aslAbsolute _
  | .lsrAbsolute _ | .rolAbsolute _ | .rorAbsolute _ | .jmpAbsolute _ | .jsr _ => .absolute
  | .ldaAbsoluteX _ | .ldyAbsoluteX _ | .staAbsoluteX _ | .adcAbsoluteX _ | .sbcAbsoluteX _ | .cmpAbsoluteX _
  | .incAbsoluteX _ | .decAbsoluteX _ | .andAbsoluteX _ | .oraAbsoluteX _ | .eorAbsoluteX _ | .aslAbsoluteX _
  | .lsrAbsoluteX _ | .rolAbsoluteX _ | .rorAbsoluteX _ => .absoluteX
  | .ldaAbsoluteY _ | .ldxAbsoluteY _ | .staAbsoluteY _ | .adcAbsoluteY _ | .sbcAbsoluteY _ | .cmpAbsoluteY _
  | .andAbsoluteY _ | .oraAbsoluteY _ | .eorAbsoluteY _ => .absoluteY
  | .jmpIndirect _ => .indirect
  | .ldaIndexedIndirectX _ | .staIndexedIndirectX _ | .adcIndexedIndirectX _ | .sbcIndexedIndirectX _ | .cmpIndexedIndirectX _ | .andIndexedIndirectX _
  | .oraIndexedIndirectX _ | .eorIndexedIndirectX _ => .indexedIndirectX
  | .ldaIndirectIndexedY _ | .staIndirectIndexedY _ | .adcIndirectIndexedY _ | .sbcIndirectIndexedY _ | .cmpIndirectIndexedY _ | .andIndirectIndexedY _
  | .oraIndirectIndexedY _ | .eorIndirectIndexedY _ => .indirectIndexedY
  | .bpl _ | .bmi _ | .bvc _ | .bvs _ | .bcc _ | .bcs _
  | .bne _ | .beq _ => .relative

/-- The operand an instruction's resolver works on; `none` for the NoOperand instructions, which have no resolver
(40_addressing_modes.md R143). -/
def Instr.operand : Instr → Option Operand
  | .inx | .iny | .dex | .dey | .rts | .pha
  | .php | .pla | .plp | .tax | .tay | .txa
  | .tya | .tsx | .txs | .clc | .sec | .cli
  | .sei | .cld | .sed | .clv | .nop | .brk
  | .rti => none
  | .aslAccumulator | .lsrAccumulator | .rolAccumulator | .rorAccumulator => none
  | .ldaImmediate v | .ldxImmediate v | .ldyImmediate v | .adcImmediate v | .sbcImmediate v | .cmpImmediate v
  | .cpxImmediate v | .cpyImmediate v | .andImmediate v | .oraImmediate v | .eorImmediate v => some (.immediate v)
  | .ldaZeroPage z | .ldxZeroPage z | .ldyZeroPage z | .staZeroPage z | .stxZeroPage z | .styZeroPage z
  | .adcZeroPage z | .sbcZeroPage z | .cmpZeroPage z | .cpxZeroPage z | .cpyZeroPage z | .incZeroPage z
  | .decZeroPage z | .andZeroPage z | .oraZeroPage z | .eorZeroPage z | .bitZeroPage z | .aslZeroPage z
  | .lsrZeroPage z | .rolZeroPage z | .rorZeroPage z => some (.zeroPage z)
  | .ldaZeroPageX z | .ldyZeroPageX z | .staZeroPageX z | .styZeroPageX z | .adcZeroPageX z | .sbcZeroPageX z
  | .cmpZeroPageX z | .incZeroPageX z | .decZeroPageX z | .andZeroPageX z | .oraZeroPageX z | .eorZeroPageX z
  | .aslZeroPageX z | .lsrZeroPageX z | .rolZeroPageX z | .rorZeroPageX z => some (.zeroPageX z)
  | .ldxZeroPageY z | .stxZeroPageY z => some (.zeroPageY z)
  | .ldaAbsolute a | .ldxAbsolute a | .ldyAbsolute a | .staAbsolute a | .stxAbsolute a | .styAbsolute a
  | .adcAbsolute a | .sbcAbsolute a | .cmpAbsolute a | .cpxAbsolute a | .cpyAbsolute a | .incAbsolute a
  | .decAbsolute a | .andAbsolute a | .oraAbsolute a | .eorAbsolute a | .bitAbsolute a | .aslAbsolute a
  | .lsrAbsolute a | .rolAbsolute a | .rorAbsolute a | .jmpAbsolute a | .jsr a => some (.absolute a)
  | .ldaAbsoluteX a | .ldyAbsoluteX a | .staAbsoluteX a | .adcAbsoluteX a | .sbcAbsoluteX a | .cmpAbsoluteX a
  | .incAbsoluteX a | .decAbsoluteX a | .andAbsoluteX a | .oraAbsoluteX a | .eorAbsoluteX a | .aslAbsoluteX a
  | .lsrAbsoluteX a | .rolAbsoluteX a | .rorAbsoluteX a => some (.absoluteX a)
  | .ldaAbsoluteY a | .ldxAbsoluteY a | .staAbsoluteY a | .adcAbsoluteY a | .sbcAbsoluteY a | .cmpAbsoluteY a
  | .andAbsoluteY a | .oraAbsoluteY a | .eorAbsoluteY a => some (.absoluteY a)
  | .jmpIndirect p => some (.indirect p)
  | .ldaIndexedIndirectX z | .staIndexedIndirectX z | .adcIndexedIndirectX z | .sbcIndexedIndirectX z | .cmpIndexedIndirectX z | .andIndexedIndirectX z
  | .oraIndexedIndirectX z | .eorIndexedIndirectX z => some (.indexedIndirectX z)
  | .ldaIndirectIndexedY z | .staIndirectIndexedY z | .adcIndirectIndexedY z | .sbcIndirectIndexedY z | .cmpIndirectIndexedY z | .andIndirectIndexedY z
  | .oraIndirectIndexedY z | .eorIndirectIndexedY z => some (.indirectIndexedY z)
  | .bpl o | .bmi o | .bvc o | .bvs o | .bcc o | .bcs o
  | .bne o | .beq o => some (.relative o)

end Sys2Proof
end

