-- ==== Sys2Proof/WellFormed.lean ====
section
/-! DEFINITION. Which instructions are well formed. A constructor of `Instr` fixes its mnemonic, its mode and the width
of its operand, so what is left to check is that the mnemonic HAS that mode: that the pair is one of the 151 of the
opcode map (30_encoding.md R104). `STA #$nn`, for one, is not (41_load_store.md R163). -/

namespace Sys2Proof

/-- The modes each mnemonic has, read off the opcode map of 30_encoding.md R104 and the encoding tables of the
instruction rules R160 to R269. -/
def Mnemonic.modes : Mnemonic → List Mode
  | .lda | .adc | .sbc | .cmp | .and | .ora | .eor =>
      [.immediate, .zeroPage, .zeroPageX, .absolute, .absoluteX, .absoluteY, .indexedIndirectX, .indirectIndexedY]
  | .ldx =>
      [.immediate, .zeroPage, .zeroPageY, .absolute, .absoluteY]
  | .ldy =>
      [.immediate, .zeroPage, .zeroPageX, .absolute, .absoluteX]
  | .sta =>
      [.zeroPage, .zeroPageX, .absolute, .absoluteX, .absoluteY, .indexedIndirectX, .indirectIndexedY]
  | .stx =>
      [.zeroPage, .zeroPageY, .absolute]
  | .sty =>
      [.zeroPage, .zeroPageX, .absolute]
  | .cpx | .cpy =>
      [.immediate, .zeroPage, .absolute]
  | .inc | .dec =>
      [.zeroPage, .zeroPageX, .absolute, .absoluteX]
  | .inx | .iny | .dex | .dey | .rts | .pha | .php | .pla
  | .plp | .tax | .tay | .txa | .tya | .tsx | .txs | .clc
  | .sec | .cli | .sei | .cld | .sed | .clv | .nop | .brk
  | .rti =>
      [.implied]
  | .bit =>
      [.zeroPage, .absolute]
  | .asl | .lsr | .rol | .ror =>
      [.accumulator, .zeroPage, .zeroPageX, .absolute, .absoluteX]
  | .bpl | .bmi | .bvc | .bvs | .bcc | .bcs | .bne | .beq =>
      [.relative]
  | .jmp =>
      [.absolute, .indirect]
  | .jsr =>
      [.absolute]

/-- A mnemonic paired with a mode, as an assembler would be asked for it. -/
structure Form where
  mnemonic : Mnemonic
  mode : Mode
deriving DecidableEq, Repr

/-- A form is well formed when the opcode map has an opcode for it (30_encoding.md R104). -/
def Form.wellFormed (f : Form) : Bool := f.mnemonic.modes.contains f.mode

/-- The form of an instruction. -/
def Instr.form (i : Instr) : Form := ⟨i.mnemonic, i.mode⟩

/-- An instruction is well formed when its form is, and when it carries an operand exactly if its mode has operand
bytes (30_encoding.md R100, R101). -/
def Instr.wellFormed (i : Instr) : Bool :=
  i.form.wellFormed && (i.operand.isSome == (i.mode.width != 0))

end Sys2Proof
end

