-- ==== Sys2Proof/Decode.lean ====
section
/-! DEFINITION. The dispatch table of 30_encoding.md (R101, R102, R104; opcode_table.json), the decoder, total on any
bytes, and after them the encoder, written from the encoding tables of the instruction rules. -/

namespace Sys2Proof

/-- How the operand bytes after an opcode become an instruction (30_encoding.md R100): format F1 has none, F2 one byte,
F3 a 16-bit value low byte first. -/
inductive Shape where
  | f1 (i : Instr)
  | f2 (make : Byte → Instr)
  | f3 (make : Word → Instr)

/-- The number of operand bytes of a format (30_encoding.md R100). -/
def Shape.operandBytes : Shape → Nat
  | .f1 _ => 0
  | .f2 _ => 1
  | .f3 _ => 2

/-- When a page crossing costs a cycle (48_execute_loop.md R288): for a read opcode whenever it crosses, for the nine
indexed store and read-modify-write opcodes only under PAGE_PENALTY_ON_STORE_RMW, for every other opcode never. -/
inductive PenaltyClass where
  | never | read | storeRmw
deriving DecidableEq, Repr

/-- One row of opcode_table.json. -/
structure OpcodeRow where
  opcode : Byte
  mnemonic : Mnemonic
  mode : Mode
  baseCycles : Nat
  penalty : PenaltyClass
  shape : Shape

/-- Row 0 of the opcode map (30_encoding.md R104), with the base cycles of opcode_table.json. -/
def opcodeRow0 : List OpcodeRow := [
  ⟨0x00, .brk, .implied, 7, .never, .f1 .brk⟩,
  ⟨0x01, .ora, .indexedIndirectX, 6, .never, .f2 .oraIndexedIndirectX⟩,
  ⟨0x05, .ora, .zeroPage, 3, .never, .f2 .oraZeroPage⟩,
  ⟨0x06, .asl, .zeroPage, 5, .never, .f2 .aslZeroPage⟩,
  ⟨0x08, .php, .implied, 3, .never, .f1 .php⟩,
  ⟨0x09, .ora, .immediate, 2, .never, .f2 .oraImmediate⟩,
  ⟨0x0A, .asl, .accumulator, 2, .never, .f1 .aslAccumulator⟩,
  ⟨0x0D, .ora, .absolute, 4, .never, .f3 .oraAbsolute⟩,
  ⟨0x0E, .asl, .absolute, 6, .never, .f3 .aslAbsolute⟩]

/-- Row 1 of the opcode map (30_encoding.md R104), with the base cycles of opcode_table.json. -/
def opcodeRow1 : List OpcodeRow := [
  ⟨0x10, .bpl, .relative, 2, .never, .f2 .bpl⟩,
  ⟨0x11, .ora, .indirectIndexedY, 5, .read, .f2 .oraIndirectIndexedY⟩,
  ⟨0x15, .ora, .zeroPageX, 4, .never, .f2 .oraZeroPageX⟩,
  ⟨0x16, .asl, .zeroPageX, 6, .never, .f2 .aslZeroPageX⟩,
  ⟨0x18, .clc, .implied, 2, .never, .f1 .clc⟩,
  ⟨0x19, .ora, .absoluteY, 4, .read, .f3 .oraAbsoluteY⟩,
  ⟨0x1D, .ora, .absoluteX, 4, .read, .f3 .oraAbsoluteX⟩,
  ⟨0x1E, .asl, .absoluteX, 7, .storeRmw, .f3 .aslAbsoluteX⟩]

/-- Row 2 of the opcode map (30_encoding.md R104), with the base cycles of opcode_table.json. -/
def opcodeRow2 : List OpcodeRow := [
  ⟨0x20, .jsr, .absolute, 6, .never, .f3 .jsr⟩,
  ⟨0x21, .and, .indexedIndirectX, 6, .never, .f2 .andIndexedIndirectX⟩,
  ⟨0x24, .bit, .zeroPage, 3, .never, .f2 .bitZeroPage⟩,
  ⟨0x25, .and, .zeroPage, 3, .never, .f2 .andZeroPage⟩,
  ⟨0x26, .rol, .zeroPage, 5, .never, .f2 .rolZeroPage⟩,
  ⟨0x28, .plp, .implied, 4, .never, .f1 .plp⟩,
  ⟨0x29, .and, .immediate, 2, .never, .f2 .andImmediate⟩,
  ⟨0x2A, .rol, .accumulator, 2, .never, .f1 .rolAccumulator⟩,
  ⟨0x2C, .bit, .absolute, 4, .never, .f3 .bitAbsolute⟩,
  ⟨0x2D, .and, .absolute, 4, .never, .f3 .andAbsolute⟩,
  ⟨0x2E, .rol, .absolute, 6, .never, .f3 .rolAbsolute⟩]

/-- Row 3 of the opcode map (30_encoding.md R104), with the base cycles of opcode_table.json. -/
def opcodeRow3 : List OpcodeRow := [
  ⟨0x30, .bmi, .relative, 2, .never, .f2 .bmi⟩,
  ⟨0x31, .and, .indirectIndexedY, 5, .read, .f2 .andIndirectIndexedY⟩,
  ⟨0x35, .and, .zeroPageX, 4, .never, .f2 .andZeroPageX⟩,
  ⟨0x36, .rol, .zeroPageX, 6, .never, .f2 .rolZeroPageX⟩,
  ⟨0x38, .sec, .implied, 2, .never, .f1 .sec⟩,
  ⟨0x39, .and, .absoluteY, 4, .read, .f3 .andAbsoluteY⟩,
  ⟨0x3D, .and, .absoluteX, 4, .read, .f3 .andAbsoluteX⟩,
  ⟨0x3E, .rol, .absoluteX, 7, .storeRmw, .f3 .rolAbsoluteX⟩]

/-- Row 4 of the opcode map (30_encoding.md R104), with the base cycles of opcode_table.json. -/
def opcodeRow4 : List OpcodeRow := [
  ⟨0x40, .rti, .implied, 6, .never, .f1 .rti⟩,
  ⟨0x41, .eor, .indexedIndirectX, 6, .never, .f2 .eorIndexedIndirectX⟩,
  ⟨0x45, .eor, .zeroPage, 3, .never, .f2 .eorZeroPage⟩,
  ⟨0x46, .lsr, .zeroPage, 5, .never, .f2 .lsrZeroPage⟩,
  ⟨0x48, .pha, .implied, 3, .never, .f1 .pha⟩,
  ⟨0x49, .eor, .immediate, 2, .never, .f2 .eorImmediate⟩,
  ⟨0x4A, .lsr, .accumulator, 2, .never, .f1 .lsrAccumulator⟩,
  ⟨0x4C, .jmp, .absolute, 3, .never, .f3 .jmpAbsolute⟩,
  ⟨0x4D, .eor, .absolute, 4, .never, .f3 .eorAbsolute⟩,
  ⟨0x4E, .lsr, .absolute, 6, .never, .f3 .lsrAbsolute⟩]

/-- Row 5 of the opcode map (30_encoding.md R104), with the base cycles of opcode_table.json. -/
def opcodeRow5 : List OpcodeRow := [
  ⟨0x50, .bvc, .relative, 2, .never, .f2 .bvc⟩,
  ⟨0x51, .eor, .indirectIndexedY, 5, .read, .f2 .eorIndirectIndexedY⟩,
  ⟨0x55, .eor, .zeroPageX, 4, .never, .f2 .eorZeroPageX⟩,
  ⟨0x56, .lsr, .zeroPageX, 6, .never, .f2 .lsrZeroPageX⟩,
  ⟨0x58, .cli, .implied, 2, .never, .f1 .cli⟩,
  ⟨0x59, .eor, .absoluteY, 4, .read, .f3 .eorAbsoluteY⟩,
  ⟨0x5D, .eor, .absoluteX, 4, .read, .f3 .eorAbsoluteX⟩,
  ⟨0x5E, .lsr, .absoluteX, 7, .storeRmw, .f3 .lsrAbsoluteX⟩]

/-- Row 6 of the opcode map (30_encoding.md R104), with the base cycles of opcode_table.json. -/
def opcodeRow6 : List OpcodeRow := [
  ⟨0x60, .rts, .implied, 6, .never, .f1 .rts⟩,
  ⟨0x61, .adc, .indexedIndirectX, 6, .never, .f2 .adcIndexedIndirectX⟩,
  ⟨0x65, .adc, .zeroPage, 3, .never, .f2 .adcZeroPage⟩,
  ⟨0x66, .ror, .zeroPage, 5, .never, .f2 .rorZeroPage⟩,
  ⟨0x68, .pla, .implied, 4, .never, .f1 .pla⟩,
  ⟨0x69, .adc, .immediate, 2, .never, .f2 .adcImmediate⟩,
  ⟨0x6A, .ror, .accumulator, 2, .never, .f1 .rorAccumulator⟩,
  ⟨0x6C, .jmp, .indirect, 5, .never, .f3 .jmpIndirect⟩,
  ⟨0x6D, .adc, .absolute, 4, .never, .f3 .adcAbsolute⟩,
  ⟨0x6E, .ror, .absolute, 6, .never, .f3 .rorAbsolute⟩]

/-- Row 7 of the opcode map (30_encoding.md R104), with the base cycles of opcode_table.json. -/
def opcodeRow7 : List OpcodeRow := [
  ⟨0x70, .bvs, .relative, 2, .never, .f2 .bvs⟩,
  ⟨0x71, .adc, .indirectIndexedY, 5, .read, .f2 .adcIndirectIndexedY⟩,
  ⟨0x75, .adc, .zeroPageX, 4, .never, .f2 .adcZeroPageX⟩,
  ⟨0x76, .ror, .zeroPageX, 6, .never, .f2 .rorZeroPageX⟩,
  ⟨0x78, .sei, .implied, 2, .never, .f1 .sei⟩,
  ⟨0x79, .adc, .absoluteY, 4, .read, .f3 .adcAbsoluteY⟩,
  ⟨0x7D, .adc, .absoluteX, 4, .read, .f3 .adcAbsoluteX⟩,
  ⟨0x7E, .ror, .absoluteX, 7, .storeRmw, .f3 .rorAbsoluteX⟩]

/-- Row 8 of the opcode map (30_encoding.md R104), with the base cycles of opcode_table.json. -/
def opcodeRow8 : List OpcodeRow := [
  ⟨0x81, .sta, .indexedIndirectX, 6, .never, .f2 .staIndexedIndirectX⟩,
  ⟨0x84, .sty, .zeroPage, 3, .never, .f2 .styZeroPage⟩,
  ⟨0x85, .sta, .zeroPage, 3, .never, .f2 .staZeroPage⟩,
  ⟨0x86, .stx, .zeroPage, 3, .never, .f2 .stxZeroPage⟩,
  ⟨0x88, .dey, .implied, 2, .never, .f1 .dey⟩,
  ⟨0x8A, .txa, .implied, 2, .never, .f1 .txa⟩,
  ⟨0x8C, .sty, .absolute, 4, .never, .f3 .styAbsolute⟩,
  ⟨0x8D, .sta, .absolute, 4, .never, .f3 .staAbsolute⟩,
  ⟨0x8E, .stx, .absolute, 4, .never, .f3 .stxAbsolute⟩]

/-- Row 9 of the opcode map (30_encoding.md R104), with the base cycles of opcode_table.json. -/
def opcodeRow9 : List OpcodeRow := [
  ⟨0x90, .bcc, .relative, 2, .never, .f2 .bcc⟩,
  ⟨0x91, .sta, .indirectIndexedY, 6, .storeRmw, .f2 .staIndirectIndexedY⟩,
  ⟨0x94, .sty, .zeroPageX, 4, .never, .f2 .styZeroPageX⟩,
  ⟨0x95, .sta, .zeroPageX, 4, .never, .f2 .staZeroPageX⟩,
  ⟨0x96, .stx, .zeroPageY, 4, .never, .f2 .stxZeroPageY⟩,
  ⟨0x98, .tya, .implied, 2, .never, .f1 .tya⟩,
  ⟨0x99, .sta, .absoluteY, 5, .storeRmw, .f3 .staAbsoluteY⟩,
  ⟨0x9A, .txs, .implied, 2, .never, .f1 .txs⟩,
  ⟨0x9D, .sta, .absoluteX, 5, .storeRmw, .f3 .staAbsoluteX⟩]

/-- Row A of the opcode map (30_encoding.md R104), with the base cycles of opcode_table.json. -/
def opcodeRowA : List OpcodeRow := [
  ⟨0xA0, .ldy, .immediate, 2, .never, .f2 .ldyImmediate⟩,
  ⟨0xA1, .lda, .indexedIndirectX, 6, .never, .f2 .ldaIndexedIndirectX⟩,
  ⟨0xA2, .ldx, .immediate, 2, .never, .f2 .ldxImmediate⟩,
  ⟨0xA4, .ldy, .zeroPage, 3, .never, .f2 .ldyZeroPage⟩,
  ⟨0xA5, .lda, .zeroPage, 3, .never, .f2 .ldaZeroPage⟩,
  ⟨0xA6, .ldx, .zeroPage, 3, .never, .f2 .ldxZeroPage⟩,
  ⟨0xA8, .tay, .implied, 2, .never, .f1 .tay⟩,
  ⟨0xA9, .lda, .immediate, 2, .never, .f2 .ldaImmediate⟩,
  ⟨0xAA, .tax, .implied, 2, .never, .f1 .tax⟩,
  ⟨0xAC, .ldy, .absolute, 4, .never, .f3 .ldyAbsolute⟩,
  ⟨0xAD, .lda, .absolute, 4, .never, .f3 .ldaAbsolute⟩,
  ⟨0xAE, .ldx, .absolute, 4, .never, .f3 .ldxAbsolute⟩]

/-- Row B of the opcode map (30_encoding.md R104), with the base cycles of opcode_table.json. -/
def opcodeRowB : List OpcodeRow := [
  ⟨0xB0, .bcs, .relative, 2, .never, .f2 .bcs⟩,
  ⟨0xB1, .lda, .indirectIndexedY, 5, .read, .f2 .ldaIndirectIndexedY⟩,
  ⟨0xB4, .ldy, .zeroPageX, 4, .never, .f2 .ldyZeroPageX⟩,
  ⟨0xB5, .lda, .zeroPageX, 4, .never, .f2 .ldaZeroPageX⟩,
  ⟨0xB6, .ldx, .zeroPageY, 4, .never, .f2 .ldxZeroPageY⟩,
  ⟨0xB8, .clv, .implied, 2, .never, .f1 .clv⟩,
  ⟨0xB9, .lda, .absoluteY, 4, .read, .f3 .ldaAbsoluteY⟩,
  ⟨0xBA, .tsx, .implied, 2, .never, .f1 .tsx⟩,
  ⟨0xBC, .ldy, .absoluteX, 4, .read, .f3 .ldyAbsoluteX⟩,
  ⟨0xBD, .lda, .absoluteX, 4, .read, .f3 .ldaAbsoluteX⟩,
  ⟨0xBE, .ldx, .absoluteY, 4, .read, .f3 .ldxAbsoluteY⟩]

/-- Row C of the opcode map (30_encoding.md R104), with the base cycles of opcode_table.json. -/
def opcodeRowC : List OpcodeRow := [
  ⟨0xC0, .cpy, .immediate, 2, .never, .f2 .cpyImmediate⟩,
  ⟨0xC1, .cmp, .indexedIndirectX, 6, .never, .f2 .cmpIndexedIndirectX⟩,
  ⟨0xC4, .cpy, .zeroPage, 3, .never, .f2 .cpyZeroPage⟩,
  ⟨0xC5, .cmp, .zeroPage, 3, .never, .f2 .cmpZeroPage⟩,
  ⟨0xC6, .dec, .zeroPage, 5, .never, .f2 .decZeroPage⟩,
  ⟨0xC8, .iny, .implied, 2, .never, .f1 .iny⟩,
  ⟨0xC9, .cmp, .immediate, 2, .never, .f2 .cmpImmediate⟩,
  ⟨0xCA, .dex, .implied, 2, .never, .f1 .dex⟩,
  ⟨0xCC, .cpy, .absolute, 4, .never, .f3 .cpyAbsolute⟩,
  ⟨0xCD, .cmp, .absolute, 4, .never, .f3 .cmpAbsolute⟩,
  ⟨0xCE, .dec, .absolute, 6, .never, .f3 .decAbsolute⟩]

/-- Row D of the opcode map (30_encoding.md R104), with the base cycles of opcode_table.json. -/
def opcodeRowD : List OpcodeRow := [
  ⟨0xD0, .bne, .relative, 2, .never, .f2 .bne⟩,
  ⟨0xD1, .cmp, .indirectIndexedY, 5, .read, .f2 .cmpIndirectIndexedY⟩,
  ⟨0xD5, .cmp, .zeroPageX, 4, .never, .f2 .cmpZeroPageX⟩,
  ⟨0xD6, .dec, .zeroPageX, 6, .never, .f2 .decZeroPageX⟩,
  ⟨0xD8, .cld, .implied, 2, .never, .f1 .cld⟩,
  ⟨0xD9, .cmp, .absoluteY, 4, .read, .f3 .cmpAbsoluteY⟩,
  ⟨0xDD, .cmp, .absoluteX, 4, .read, .f3 .cmpAbsoluteX⟩,
  ⟨0xDE, .dec, .absoluteX, 7, .storeRmw, .f3 .decAbsoluteX⟩]

/-- Row E of the opcode map (30_encoding.md R104), with the base cycles of opcode_table.json. -/
def opcodeRowE : List OpcodeRow := [
  ⟨0xE0, .cpx, .immediate, 2, .never, .f2 .cpxImmediate⟩,
  ⟨0xE1, .sbc, .indexedIndirectX, 6, .never, .f2 .sbcIndexedIndirectX⟩,
  ⟨0xE4, .cpx, .zeroPage, 3, .never, .f2 .cpxZeroPage⟩,
  ⟨0xE5, .sbc, .zeroPage, 3, .never, .f2 .sbcZeroPage⟩,
  ⟨0xE6, .inc, .zeroPage, 5, .never, .f2 .incZeroPage⟩,
  ⟨0xE8, .inx, .implied, 2, .never, .f1 .inx⟩,
  ⟨0xE9, .sbc, .immediate, 2, .never, .f2 .sbcImmediate⟩,
  ⟨0xEA, .nop, .implied, 2, .never, .f1 .nop⟩,
  ⟨0xEC, .cpx, .absolute, 4, .never, .f3 .cpxAbsolute⟩,
  ⟨0xED, .sbc, .absolute, 4, .never, .f3 .sbcAbsolute⟩,
  ⟨0xEE, .inc, .absolute, 6, .never, .f3 .incAbsolute⟩]

/-- Row F of the opcode map (30_encoding.md R104), with the base cycles of opcode_table.json. -/
def opcodeRowF : List OpcodeRow := [
  ⟨0xF0, .beq, .relative, 2, .never, .f2 .beq⟩,
  ⟨0xF1, .sbc, .indirectIndexedY, 5, .read, .f2 .sbcIndirectIndexedY⟩,
  ⟨0xF5, .sbc, .zeroPageX, 4, .never, .f2 .sbcZeroPageX⟩,
  ⟨0xF6, .inc, .zeroPageX, 6, .never, .f2 .incZeroPageX⟩,
  ⟨0xF8, .sed, .implied, 2, .never, .f1 .sed⟩,
  ⟨0xF9, .sbc, .absoluteY, 4, .read, .f3 .sbcAbsoluteY⟩,
  ⟨0xFD, .sbc, .absoluteX, 4, .read, .f3 .sbcAbsoluteX⟩,
  ⟨0xFE, .inc, .absoluteX, 7, .storeRmw, .f3 .incAbsoluteX⟩]

/-- The row of the opcode map that an opcode byte's high hexadecimal digit names (30_encoding.md R104). -/
def opcodeMapRow (digit : Nat) : List OpcodeRow :=
  match digit with
  | 0 => opcodeRow0
  | 1 => opcodeRow1
  | 2 => opcodeRow2
  | 3 => opcodeRow3
  | 4 => opcodeRow4
  | 5 => opcodeRow5
  | 6 => opcodeRow6
  | 7 => opcodeRow7
  | 8 => opcodeRow8
  | 9 => opcodeRow9
  | 10 => opcodeRowA
  | 11 => opcodeRowB
  | 12 => opcodeRowC
  | 13 => opcodeRowD
  | 14 => opcodeRowE
  | 15 => opcodeRowF
  | _ => []

/-- The entry of the dispatch table for an opcode byte, `none` for an Invalid one (30_encoding.md R102, R105). -/
def opcodeRow (op : Byte) : Option OpcodeRow := (opcodeMapRow (op.toNat / 16)).find? fun r => r.opcode == op

/-- The instruction descriptor of 30_encoding.md R101. -/
inductive Descriptor where
  | invalid
  | noOperand (mnemonic : Mnemonic) (baseCycles : Nat)
  | withOperand (mnemonic : Mnemonic) (baseCycles : Nat) (resolver : Mode)
deriving DecidableEq, Repr

/-- The dispatch table as a constant function of the opcode byte (30_encoding.md R102): Implied and Accumulator opcodes
are NoOperand, every other implemented opcode is WithOperand (R101). -/
def descriptor (op : Byte) : Descriptor :=
  match opcodeRow op with
  | none => .invalid
  | some r =>
    match r.mode with
    | .implied | .accumulator => .noOperand r.mnemonic r.baseCycles
    | _ => .withOperand r.mnemonic r.baseCycles r.mode

/-- Why a byte sequence is no instruction. -/
inductive DecodeError where
  /-- There is no byte to decode. -/
  | noBytes
  /-- The opcode byte is one of the 105 Invalid ones (30_encoding.md R105). -/
  | invalidOpcode (op : Byte)
  /-- The bytes end before the operand bytes of the opcode do (30_encoding.md R100). -/
  | missingOperand (op : Byte)
deriving DecidableEq, Repr

/-- Decodes one instruction at the head of a byte sequence and gives back the bytes after it (30_encoding.md R100,
R103, R107). -/
def decode : List Byte → Except DecodeError (Instr × List Byte)
  | [] => .error .noBytes
  | op :: rest =>
    match opcodeRow op with
    | none => .error (.invalidOpcode op)
    | some r =>
      match r.shape, rest with
      | .f1 i, _ => .ok (i, rest)
      | .f2 make, b :: rest' => .ok (make b, rest')
      | .f3 make, l :: h :: rest' => .ok (make (joinBytes h l), rest')
      | _, _ => .error (.missingOperand op)

/-- The bytes of a machine word `w` as opcode_table.json numbers its bits: the first byte in bits 7..0, the next in bits
15..8, and every bit from `nbits` on zero. Three bytes, the longest instruction (30_encoding.md R107). -/
def tableBytes (nbits w : Nat) : List Byte :=
  let v := w % 2 ^ nbits
  [BitVec.ofNat 8 v, BitVec.ofNat 8 (v / 256), BitVec.ofNat 8 (v / 65536)]

/-- The instruction the decoder reads from the word `w` of `nbits` bits. -/
def decodeTableWord (nbits w : Nat) : Option Instr :=
  match decode (tableBytes nbits w) with
  | .ok (i, _) => some i
  | .error _ => none

/-- The bytes of an instruction, in address order (30_encoding.md R100), from the Encoding table of its rule. -/
def encode : Instr → List Byte
  | .ldaImmediate v => [0xA9, v]
  | .ldaZeroPage z => [0xA5, z]
  | .ldaZeroPageX z => [0xB5, z]
  | .ldaAbsolute a => [0xAD, lowByte a, highByte a]
  | .ldaAbsoluteX a => [0xBD, lowByte a, highByte a]
  | .ldaAbsoluteY a => [0xB9, lowByte a, highByte a]
  | .ldaIndexedIndirectX z => [0xA1, z]
  | .ldaIndirectIndexedY z => [0xB1, z]
  | .ldxImmediate v => [0xA2, v]
  | .ldxZeroPage z => [0xA6, z]
  | .ldxZeroPageY z => [0xB6, z]
  | .ldxAbsolute a => [0xAE, lowByte a, highByte a]
  | .ldxAbsoluteY a => [0xBE, lowByte a, highByte a]
  | .ldyImmediate v => [0xA0, v]
  | .ldyZeroPage z => [0xA4, z]
  | .ldyZeroPageX z => [0xB4, z]
  | .ldyAbsolute a => [0xAC, lowByte a, highByte a]
  | .ldyAbsoluteX a => [0xBC, lowByte a, highByte a]
  | .staZeroPage z => [0x85, z]
  | .staZeroPageX z => [0x95, z]
  | .staAbsolute a => [0x8D, lowByte a, highByte a]
  | .staAbsoluteX a => [0x9D, lowByte a, highByte a]
  | .staAbsoluteY a => [0x99, lowByte a, highByte a]
  | .staIndexedIndirectX z => [0x81, z]
  | .staIndirectIndexedY z => [0x91, z]
  | .stxZeroPage z => [0x86, z]
  | .stxZeroPageY z => [0x96, z]
  | .stxAbsolute a => [0x8E, lowByte a, highByte a]
  | .styZeroPage z => [0x84, z]
  | .styZeroPageX z => [0x94, z]
  | .styAbsolute a => [0x8C, lowByte a, highByte a]
  | .adcImmediate v => [0x69, v]
  | .adcZeroPage z => [0x65, z]
  | .adcZeroPageX z => [0x75, z]
  | .adcAbsolute a => [0x6D, lowByte a, highByte a]
  | .adcAbsoluteX a => [0x7D, lowByte a, highByte a]
  | .adcAbsoluteY a => [0x79, lowByte a, highByte a]
  | .adcIndexedIndirectX z => [0x61, z]
  | .adcIndirectIndexedY z => [0x71, z]
  | .sbcImmediate v => [0xE9, v]
  | .sbcZeroPage z => [0xE5, z]
  | .sbcZeroPageX z => [0xF5, z]
  | .sbcAbsolute a => [0xED, lowByte a, highByte a]
  | .sbcAbsoluteX a => [0xFD, lowByte a, highByte a]
  | .sbcAbsoluteY a => [0xF9, lowByte a, highByte a]
  | .sbcIndexedIndirectX z => [0xE1, z]
  | .sbcIndirectIndexedY z => [0xF1, z]
  | .cmpImmediate v => [0xC9, v]
  | .cmpZeroPage z => [0xC5, z]
  | .cmpZeroPageX z => [0xD5, z]
  | .cmpAbsolute a => [0xCD, lowByte a, highByte a]
  | .cmpAbsoluteX a => [0xDD, lowByte a, highByte a]
  | .cmpAbsoluteY a => [0xD9, lowByte a, highByte a]
  | .cmpIndexedIndirectX z => [0xC1, z]
  | .cmpIndirectIndexedY z => [0xD1, z]
  | .cpxImmediate v => [0xE0, v]
  | .cpxZeroPage z => [0xE4, z]
  | .cpxAbsolute a => [0xEC, lowByte a, highByte a]
  | .cpyImmediate v => [0xC0, v]
  | .cpyZeroPage z => [0xC4, z]
  | .cpyAbsolute a => [0xCC, lowByte a, highByte a]
  | .incZeroPage z => [0xE6, z]
  | .incZeroPageX z => [0xF6, z]
  | .incAbsolute a => [0xEE, lowByte a, highByte a]
  | .incAbsoluteX a => [0xFE, lowByte a, highByte a]
  | .decZeroPage z => [0xC6, z]
  | .decZeroPageX z => [0xD6, z]
  | .decAbsolute a => [0xCE, lowByte a, highByte a]
  | .decAbsoluteX a => [0xDE, lowByte a, highByte a]
  | .inx => [0xE8]
  | .iny => [0xC8]
  | .dex => [0xCA]
  | .dey => [0x88]
  | .andImmediate v => [0x29, v]
  | .andZeroPage z => [0x25, z]
  | .andZeroPageX z => [0x35, z]
  | .andAbsolute a => [0x2D, lowByte a, highByte a]
  | .andAbsoluteX a => [0x3D, lowByte a, highByte a]
  | .andAbsoluteY a => [0x39, lowByte a, highByte a]
  | .andIndexedIndirectX z => [0x21, z]
  | .andIndirectIndexedY z => [0x31, z]
  | .oraImmediate v => [0x09, v]
  | .oraZeroPage z => [0x05, z]
  | .oraZeroPageX z => [0x15, z]
  | .oraAbsolute a => [0x0D, lowByte a, highByte a]
  | .oraAbsoluteX a => [0x1D, lowByte a, highByte a]
  | .oraAbsoluteY a => [0x19, lowByte a, highByte a]
  | .oraIndexedIndirectX z => [0x01, z]
  | .oraIndirectIndexedY z => [0x11, z]
  | .eorImmediate v => [0x49, v]
  | .eorZeroPage z => [0x45, z]
  | .eorZeroPageX z => [0x55, z]
  | .eorAbsolute a => [0x4D, lowByte a, highByte a]
  | .eorAbsoluteX a => [0x5D, lowByte a, highByte a]
  | .eorAbsoluteY a => [0x59, lowByte a, highByte a]
  | .eorIndexedIndirectX z => [0x41, z]
  | .eorIndirectIndexedY z => [0x51, z]
  | .bitZeroPage z => [0x24, z]
  | .bitAbsolute a => [0x2C, lowByte a, highByte a]
  | .aslAccumulator => [0x0A]
  | .aslZeroPage z => [0x06, z]
  | .aslZeroPageX z => [0x16, z]
  | .aslAbsolute a => [0x0E, lowByte a, highByte a]
  | .aslAbsoluteX a => [0x1E, lowByte a, highByte a]
  | .lsrAccumulator => [0x4A]
  | .lsrZeroPage z => [0x46, z]
  | .lsrZeroPageX z => [0x56, z]
  | .lsrAbsolute a => [0x4E, lowByte a, highByte a]
  | .lsrAbsoluteX a => [0x5E, lowByte a, highByte a]
  | .rolAccumulator => [0x2A]
  | .rolZeroPage z => [0x26, z]
  | .rolZeroPageX z => [0x36, z]
  | .rolAbsolute a => [0x2E, lowByte a, highByte a]
  | .rolAbsoluteX a => [0x3E, lowByte a, highByte a]
  | .rorAccumulator => [0x6A]
  | .rorZeroPage z => [0x66, z]
  | .rorZeroPageX z => [0x76, z]
  | .rorAbsolute a => [0x6E, lowByte a, highByte a]
  | .rorAbsoluteX a => [0x7E, lowByte a, highByte a]
  | .bpl o => [0x10, o]
  | .bmi o => [0x30, o]
  | .bvc o => [0x50, o]
  | .bvs o => [0x70, o]
  | .bcc o => [0x90, o]
  | .bcs o => [0xB0, o]
  | .bne o => [0xD0, o]
  | .beq o => [0xF0, o]
  | .jmpAbsolute a => [0x4C, lowByte a, highByte a]
  | .jmpIndirect p => [0x6C, lowByte p, highByte p]
  | .jsr a => [0x20, lowByte a, highByte a]
  | .rts => [0x60]
  | .pha => [0x48]
  | .php => [0x08]
  | .pla => [0x68]
  | .plp => [0x28]
  | .tax => [0xAA]
  | .tay => [0xA8]
  | .txa => [0x8A]
  | .tya => [0x98]
  | .tsx => [0xBA]
  | .txs => [0x9A]
  | .clc => [0x18]
  | .sec => [0x38]
  | .cli => [0x58]
  | .sei => [0x78]
  | .cld => [0xD8]
  | .sed => [0xF8]
  | .clv => [0xB8]
  | .nop => [0xEA]
  | .brk => [0x00]
  | .rti => [0x40]

/-- The opcode byte of an instruction: the first byte of its encoding (30_encoding.md R100). -/
def Instr.opcode (i : Instr) : Byte := (encode i).headD 0

/-- The length of an instruction in bytes, `1 + width(mode)` (30_encoding.md R107). -/
def Instr.length (i : Instr) : Nat := 1 + i.mode.width

/-- The base cycle count of an instruction's row (48_execute_loop.md R287; opcode_table.json `base_cycles`). -/
def Instr.baseCycles (i : Instr) : Nat := ((opcodeRow i.opcode).map OpcodeRow.baseCycles).getD 0

/-- The page-penalty class of an instruction's row (48_execute_loop.md R288). -/
def Instr.penalty (i : Instr) : PenaltyClass := ((opcodeRow i.opcode).map OpcodeRow.penalty).getD .never

end Sys2Proof
end

