-- ==== Sys2Proof/Config.lean ====
section
/-! DEFINITION. The named parameters of 00_scope.md R7 and 92_eei_decisions.md: what a model takes as arguments. -/

namespace Sys2Proof

/-- The parameters that stay fixed for a machine (92_eei_decisions.md, table of parameters). -/
structure Params where
  /-- `RESET_SP`, the value reset gives SP (D5). -/
  resetSp : Byte
  /-- `PAGE_PENALTY_ON_STORE_RMW`: do indexed stores and read-modify-writes pay for a page crossing? (D11) -/
  pagePenaltyOnStoreRmw : Bool
deriving DecidableEq, Repr

/-- The spec's defaults: `RESET_SP = 0xFD`, `PAGE_PENALTY_ON_STORE_RMW = false` (00_scope.md R7). -/
def Params.standard : Params := ⟨0xFD, false⟩

/-- `POWER_ON_REGS` (D6): the registers and flags that construction leaves unspecified, a free draw. -/
structure PowerOnRegs where
  a : Byte
  x : Byte
  y : Byte
  c : Bool
  z : Bool
  d : Bool
  v : Bool
  n : Bool
deriving DecidableEq, Repr

/-- The all-zero draw. DESIGN CHOICE (unsafe, log 1): the one draw `State.reset` fixes. -/
def PowerOnRegs.zero : PowerOnRegs := ⟨0, 0, 0, false, false, false, false, false⟩

end Sys2Proof
end

