-- ==== Sys2Proof/Machine/State.lean ====
section
/-! DEFINITION. The state of the block as plain data (10_state.md R30), the reasons a step stops, and the state after
reset. -/

namespace Sys2Proof.Machine

/-- The status register P (10_state.md R36): its seven flags. Bit 5, Unused, is hardwired to 1 and has no storage (R38);
the byte views are in Flags.lean. -/
structure Status where
  /-- Carry, bit 0. -/
  c : Bool
  /-- Zero, bit 1. -/
  z : Bool
  /-- Interrupt-disable, bit 2. -/
  i : Bool
  /-- Decimal, bit 3. -/
  d : Bool
  /-- Break, bit 4: stored, 0 in every reachable state (R39). -/
  b : Bool
  /-- Overflow, bit 6. -/
  v : Bool
  /-- Negative, bit 7. -/
  n : Bool
deriving DecidableEq, Repr

/-- The states the fetch-decode-execute loop can hold at a step boundary (48_execute_loop.md R281). -/
inductive LoopState where
  | fetching
  | halted
deriving DecidableEq, Repr

/-- `DecodeFault(opcode, pc)`: the offending opcode and the address it was fetched from (60_exceptions.md R310). -/
structure DecodeFault where
  opcode : Byte
  pc : Word
deriving DecidableEq, Repr

/-- One bus transaction (20_memory.md R71, R72, R75): a read of one byte, or a write of one byte. -/
inductive BusAccess where
  | read (addr : Word)
  | write (addr : Word) (value : Byte)
deriving DecidableEq, Repr

/-- The bus memory (20_memory.md R70): the bytes that are not 0, at strictly rising addresses. An address that is not
listed reads 0 (R71, R73). -/
abbrev Memory := List Host.Cell

/-- The canonical form from address `lo` on: addresses rise strictly and stay below 2^16, and no listed byte is 0. -/
def Memory.risingFrom : Nat → Memory → Bool
  | _, [] => true
  | lo, (a, v) :: m => decide (lo ≤ a) && decide (a < 65536) && decide (v ≠ 0) && Memory.risingFrom (a + 1) m

/-- The canonical form of the bus memory. -/
def Memory.wf (m : Memory) : Bool := Memory.risingFrom 0 m

/-- The state of the block and of its bus (10_state.md R30; 20_memory.md R70), with two fields of the model's own. -/
structure State where
  /-- The accumulator (R31). -/
  a : Byte
  /-- Index register X (R32). -/
  x : Byte
  /-- Index register Y (R33). -/
  y : Byte
  /-- The stack pointer, an offset into page 0x01 (R35). -/
  sp : Byte
  /-- The program counter (R34). -/
  pc : Word
  /-- The status register (R36). -/
  p : Status
  /-- The state of the loop at a step boundary (R44; 48_execute_loop.md R281). -/
  loopState : LoopState
  /-- The recorded DecodeFault (R44; 60_exceptions.md R310). -/
  fault : Option DecodeFault
  /-- The NMI latch (R44; 60_exceptions.md R315). -/
  nmiPending : Bool
  /-- The level of the IRQ input (R44; 60_exceptions.md R314). -/
  irqLine : Bool
  /-- The running total of cycles (R44; 48_execute_loop.md R289). -/
  cycleTotal : CycleCount
  /-- The bus memory (20_memory.md R70). -/
  mem : Memory
  /-- The model's own (log 3): the bus transactions of the latest step or host reset, in order (20_memory.md R76). -/
  bus : List BusAccess
  /-- The model's own (log 2): the named parameters (00_scope.md R7). -/
  params : Params
deriving DecidableEq, Repr

/-- Why the machine stops with a fault. -/
inductive Fault where
  /-- Raised by a step in Halted, and by nothing else: it returns the recorded DecodeFault again and changes no state
  (48_execute_loop.md R290). Safe: the spec gives this step no effect. The record is `none` only in a state no run
  reaches (10_state.md R44). -/
  | halted (record : Option DecodeFault)
deriving DecidableEq, Repr

/-- Why an instruction has no meaning. -/
inductive Refusal where
  /-- Raised by an arm of `exec` whose instruction has no meaning yet; safe, since nothing is claimed of it. No arm
  raises it. -/
  | notModelled (mnemonic : String)
deriving DecidableEq, Repr

/-- The answer of a step. -/
abbrev Answer := Host.Outcome State Fault Refusal

/-- The state after construction and reset (10_state.md R45, R46; 70_reset_and_hazards.md R343) at the default
parameters. DESIGN CHOICE (unsafe, log 1): the unspecified A, X, Y, C, Z, D, V and N are the zero draw. -/
def State.reset : State where
  a := 0
  x := 0
  y := 0
  sp := 0xFD
  pc := 0x0000
  p := ⟨false, false, true, false, false, false, false⟩
  loopState := .fetching
  fault := none
  nmiPending := false
  irqLine := false
  cycleTotal := 0
  mem := []
  bus := [.read 0xFFFC, .read 0xFFFD]
  params := Params.standard

end Sys2Proof.Machine
end

