-- ==== Sys2Proof/Machine/Flags.lean ====
section
/-! DEFINITION. The status register's operations (10_state.md R36 to R48) and every flag computation: binary and decimal
addition and subtraction, compare (42_arithmetic.md R170 to R175), the shifts and rotates (44_shift_rotate.md R211 to
R214) and BIT (43_logical.md R203). -/

namespace Sys2Proof.Machine

/-! ### The status byte -/

/-- The flags that have an operation keyed by their name; Unused has none (10_state.md R37). -/
inductive Flag where
  | carry | zero | interrupt | decimal | break_ | overflow | negative
deriving DecidableEq, Repr

/-- `P.f` (10_state.md R37). -/
def Status.test (p : Status) : Flag → Bool
  | .carry => p.c
  | .zero => p.z
  | .interrupt => p.i
  | .decimal => p.d
  | .break_ => p.b
  | .overflow => p.v
  | .negative => p.n

/-- `P.f <- v` (10_state.md R37). -/
def Status.put (p : Status) (f : Flag) (v : Bool) : Status :=
  match f with
  | .carry => { p with c := v }
  | .zero => { p with z := v }
  | .interrupt => { p with i := v }
  | .decimal => { p with d := v }
  | .break_ => { p with b := v }
  | .overflow => { p with v := v }
  | .negative => { p with n := v }

/-- The byte of P with `b` in bit 4 and 1 in bit 5 (10_state.md R36, R38, R47). -/
def Status.byteWith (p : Status) (b : Bool) : Byte :=
  BitVec.ofNat 8 (p.n.toNat * 128 + p.v.toNat * 64 + 1 * 32 + b.toNat * 16 + p.d.toNat * 8 + p.i.toNat * 4
    + p.z.toNat * 2 + p.c.toNat)

/-- The byte value of P (10_state.md R36). -/
def Status.byte (p : Status) : Byte := p.byteWith p.b

/-- `PushedP(b)`: the status byte as pushed (10_state.md R47). -/
def Status.pushed (p : Status) (b : Bool) : Byte := p.byteWith b

/-- `LoadP(v)`: N, V, D, I, Z and C from the byte, B cleared, bits 5 and 4 of the byte ignored (10_state.md R48). -/
def Status.load (v : Byte) : Status where
  c := v.getLsbD 0
  z := v.getLsbD 1
  i := v.getLsbD 2
  d := v.getLsbD 3
  b := false
  v := v.getLsbD 6
  n := v.getLsbD 7

/-- `SetNZ(v)` (10_state.md R41). -/
def Status.setNZ (p : Status) (v : Byte) : Status := { p with z := decide (v = 0), n := v.getLsbD 7 }

/-! ### Addition and subtraction -/

/-- A result byte with a carry and an overflow. -/
structure Sum where
  r : Byte
  carry : Bool
  overflow : Bool
deriving DecidableEq, Repr

/-- `AddBinary(a, m, c)` (42_arithmetic.md R170). -/
def addBinary (a m : Byte) (c : Bool) : Sum :=
  let s := a.toNat + m.toNat + c.toNat
  let r := BitVec.ofNat 8 s
  { r := r
    carry := decide (s > 255)
    overflow := a.getLsbD 7 == m.getLsbD 7 && r.getLsbD 7 != a.getLsbD 7 }

/-- The low decimal digit of an addition, corrected, with its carry in bit 4 (42_arithmetic.md R172, `al`). -/
def decimalAddLow (a m : Byte) (c : Bool) : Nat :=
  let al := (a &&& 0x0F).toNat + (m &&& 0x0F).toNat + c.toNat
  if al ≥ 0x0A then (al + 0x06) % 16 + 0x10 else al

/-- The intermediate sum of a decimal addition, before the high digit is corrected (42_arithmetic.md R172, first `t`). -/
def decimalAddMid (a m : Byte) (c : Bool) : Nat :=
  (a &&& 0xF0).toNat + (m &&& 0xF0).toNat + decimalAddLow a m c

/-- The corrected sum of a decimal addition (42_arithmetic.md R172, last `t`). -/
def decimalAddFull (a m : Byte) (c : Bool) : Nat :=
  let t := decimalAddMid a m c
  if t ≥ 0xA0 then t + 0x60 else t

/-- The result byte and the status of `DecimalAdd(M)` (42_arithmetic.md R172): N and V from the intermediate sum, Z from
the binary sum, C from the corrected sum. -/
def decimalAdd (a m : Byte) (p : Status) : Byte × Status :=
  let mid := BitVec.ofNat 8 (decimalAddMid a m p.c)
  let full := decimalAddFull a m p.c
  (BitVec.ofNat 8 full,
   { p with
     n := mid.getLsbD 7
     v := a.getLsbD 7 == m.getLsbD 7 && mid.getLsbD 7 != a.getLsbD 7
     z := decide (BitVec.ofNat 8 (a.toNat + m.toNat + p.c.toNat) = 0)
     c := decide (full ≥ 0x100) })

/-- The low digit of a decimal subtraction, corrected (42_arithmetic.md R174, `al`). -/
def decimalSubLow (a m : Byte) (c : Bool) : Int :=
  let al : Int := ((a &&& 0x0F).toNat : Int) - ((m &&& 0x0F).toNat : Int) + (c.toNat : Int) - 1
  if al < 0 then (al - 0x06) % 16 - 0x10 else al

/-- `DecimalSub(a, m, c)` (42_arithmetic.md R174). -/
def decimalSub (a m : Byte) (c : Bool) : Byte :=
  let t : Int := ((a &&& 0xF0).toNat : Int) - ((m &&& 0xF0).toNat : Int) + decimalSubLow a m c
  BitVec.ofInt 8 (if t < 0 then t - 0x60 else t)

/-- C, V, Z and N from a binary sum (42_arithmetic.md R171, R173). -/
def Status.setSum (p : Status) (s : Sum) : Status := { p with c := s.carry, v := s.overflow }.setNZ s.r

/-- The result byte and the status of ADC (42_arithmetic.md R171). -/
def addWithCarry (a m : Byte) (p : Status) : Byte × Status :=
  if p.d then decimalAdd a m p
  else
    let s := addBinary a m p.c
    (s.r, p.setSum s)

/-- The result byte and the status of SBC (42_arithmetic.md R173): the flags from the binary subtraction in both modes. -/
def subtractWithCarry (a m : Byte) (p : Status) : Byte × Status :=
  let s := addBinary a (~~~m) p.c
  (if p.d then decimalSub a m p.c else s.r, p.setSum s)

/-! ### Compare, BIT, shifts and rotates -/

/-- `Compare(R, M)` (42_arithmetic.md R175). -/
def Status.compare (p : Status) (r m : Byte) : Status :=
  { p with c := decide (m.toNat ≤ r.toNat), z := decide (r = m), n := (r - m).getLsbD 7 }

/-- The flags of BIT (43_logical.md R203): Z from `A & M`, N and V from M itself. -/
def Status.bitTest (p : Status) (a m : Byte) : Status :=
  { p with z := decide (a &&& m = 0), n := m.getLsbD 7, v := m.getLsbD 6 }

/-- `f` of ASL: the result and the bit shifted out (44_shift_rotate.md R211). -/
def shiftLeft (v : Byte) : Byte × Bool := (v <<< 1, v.getLsbD 7)

/-- `f` of LSR (44_shift_rotate.md R212). -/
def shiftRight (v : Byte) : Byte × Bool := (v >>> 1, v.getLsbD 0)

/-- `f` of ROL with the carry in (44_shift_rotate.md R213). -/
def rotateLeft (c : Bool) (v : Byte) : Byte × Bool := (v <<< 1 ||| BitVec.ofNat 8 c.toNat, v.getLsbD 7)

/-- `f` of ROR with the carry in (44_shift_rotate.md R214). -/
def rotateRight (c : Bool) (v : Byte) : Byte × Bool := (v >>> 1 ||| BitVec.ofNat 8 (c.toNat * 128), v.getLsbD 0)

/-- P.C from the bit shifted out, then SetNZ of the result (44_shift_rotate.md R210). -/
def Status.setShift (p : Status) (r : Byte × Bool) : Status := { p with c := r.2 }.setNZ r.1

end Sys2Proof.Machine
end

