-- ==== Sys2Proof/Machine/Ops.lean ====
section
/-! DEFINITION. The named operations over memory, the bus, the stack, the registers and the cycle accumulator
(20_memory.md; 48_execute_loop.md R282, R286 to R289), and taking an exception with the return from one
(60_exceptions.md R318, R321; 47_flags_system.md R268, R269). -/

namespace Sys2Proof.Machine

/-! ### Memory -/

/-- The byte at an address; 0 where nothing is listed (20_memory.md R71, R73). -/
def Memory.read : Memory → Nat → Byte
  | [], _ => 0
  | (k, v) :: m, a => if k = a then v else Memory.read m a

/-- A memory without the byte at an address, which then reads 0. -/
def Memory.erase : Memory → Nat → Memory
  | [], _ => []
  | (k, v) :: m, a => if k = a then Memory.erase m a else (k, v) :: Memory.erase m a

/-- A memory with a byte listed at its place in the rising order of addresses. -/
def Memory.insert : Memory → Nat → Byte → Memory
  | [], a, v => [(a, v)]
  | (k, w) :: m, a, v => if a < k then (a, v) :: (k, w) :: m else (k, w) :: Memory.insert m a v

/-- `mem[a] <- v` (20_memory.md R72), in canonical form: writing 0 leaves the address unlisted. -/
def Memory.write (m : Memory) (a : Nat) (v : Byte) : Memory :=
  if v = 0 then m.erase a else (m.erase a).insert a v

/-- The byte at a bus address, read with no transaction: what `MemRead` will return (20_memory.md R71). -/
def State.byteAt (s : State) (addr : Word) : Byte := s.mem.read addr.toNat

/-- Records bus transactions after those already made in this step (20_memory.md R76). -/
def State.record (s : State) (l : List BusAccess) : State := { s with bus := s.bus ++ l }

/-- `MemRead(addr, 1)` (20_memory.md R71). -/
def memRead (addr : Word) (s : State) : Byte × State := (s.byteAt addr, s.record [.read addr])

/-- `MemWrite(addr, 1, v)` (20_memory.md R72). -/
def memWrite (addr : Word) (v : Byte) (s : State) : State :=
  { s.record [.write addr v] with mem := s.mem.write addr.toNat v }

/-- `MemRead16(addr)`: two reads, the low byte first (20_memory.md R74). -/
def memRead16 (addr : Word) (s : State) : Word × State :=
  let (lo, s1) := memRead addr s
  let (hi, s2) := memRead (addr + 1) s1
  (joinBytes hi lo, s2)

/-! ### The stack -/

/-- The bus address of the stack byte for a stack pointer value (20_memory.md R77). -/
def stackAddress (sp : Byte) : Word := 0x0100 ||| zeroExtend sp

/-- `Push(v)`: write, then decrement SP with 8-bit wrap-around (20_memory.md R78). -/
def push (v : Byte) (s : State) : State :=
  let s1 := memWrite (stackAddress s.sp) v s
  { s1 with sp := s.sp - 1 }

/-- `Pull()`: increment SP with 8-bit wrap-around, then read (20_memory.md R79). -/
def pull (s : State) : Byte × State :=
  let s1 := { s with sp := s.sp + 1 }
  memRead (stackAddress s1.sp) s1

/-- Pushes a 16-bit value, high byte first (45_control_transfer.md R230; 60_exceptions.md R318). -/
def push16 (w : Word) (s : State) : State := push (lowByte w) (push (highByte w) s)

/-- Pulls a 16-bit value, low byte first (45_control_transfer.md R231; 47_flags_system.md R269). -/
def pull16 (s : State) : Word × State :=
  let (l, s1) := pull s
  let (h, s2) := pull s1
  (joinBytes h l, s2)

/-! ### Registers, fetch and cycles -/

/-- `SetNZ(v)` on the status register (10_state.md R41). -/
def setNZ (v : Byte) (s : State) : State := { s with p := s.p.setNZ v }

/-- `FetchByte()`: read the byte at PC and advance PC by one, modulo 2^16 (48_execute_loop.md R282). -/
def fetchByte (s : State) : Byte × State :=
  let (b, s1) := memRead s.pc s
  (b, { s1 with pc := s.pc + 1 })

/-- Adds cycles to `cycle_total` modulo 2^64 (48_execute_loop.md R286, R289). -/
def charge (cycles : Nat) (s : State) : State := { s with cycleTotal := s.cycleTotal + BitVec.ofNat 64 cycles }

/-- A step begins with no bus transaction made (20_memory.md R76). -/
def beginStep (s : State) : State := { s with bus := [] }

/-! ### Taking an exception and returning from one -/

/-- The NMI vector (20_memory.md R81). -/
def nmiVector : Word := 0xFFFA

/-- The RESET vector (20_memory.md R81). -/
def resetVector : Word := 0xFFFC

/-- The vector IRQ and BRK share (20_memory.md R81). -/
def irqVector : Word := 0xFFFE

/-- The common entry of BRK, IRQ and NMI: push the return address, high byte first, and `PushedP(b)`, set P.I, load PC
from the vector (47_flags_system.md R268; 60_exceptions.md R318). -/
def takeException (ret : Word) (b : Bool) (vector : Word) (s : State) : State :=
  let s1 := push (s.p.pushed b) (push16 ret s)
  let s2 := { s1 with p := s1.p.put .interrupt true }
  let (target, s3) := memRead16 vector s2
  { s3 with pc := target }

/-- The return from an exception: pull the status byte and then PC, with no +1 (47_flags_system.md R269;
60_exceptions.md R321). -/
def returnFromException (s : State) : State :=
  let (v, s1) := pull s
  let s2 := { s1 with p := Status.load v }
  let (target, s3) := pull16 s2
  { s3 with pc := target }

/-- The one synchronous fault: Halted, with the opcode and the address it was fetched from recorded, and nothing else
changed (48_execute_loop.md R283; 60_exceptions.md R310). -/
def raiseDecodeFault (op : Byte) (fetchPc : Word) (s : State) : State :=
  { s with loopState := .halted, fault := some ⟨op, fetchPc⟩ }

end Sys2Proof.Machine
end

