-- ==== Sys2Proof/Machine/Operands.lean ====
section
/-! DEFINITION. The addressing-mode resolvers (40_addressing_modes.md R130 to R147) and the instruction shapes built on
them (R146; 44_shift_rotate.md R210; 48_execute_loop.md R285 to R288). When a resolver or a handler runs, the step has
already fetched the operand bytes and PC is the address after the instruction (R131; log 5). -/

namespace Sys2Proof.Machine

/-- An address inside the zero page, `{0x00, z}` (20_memory.md R80; 30_encoding.md R103). -/
def zeroPageAddress (z : Byte) : Word := joinBytes 0 z

/-- The address a JMP-indirect pointer's high byte is read from: it does not carry into the next page
(40_addressing_modes.md R139). -/
def indirectHighAddress (p : Word) : Word := joinBytes (highByte p) (lowByte p + 1)

/-- The 16-bit value of a zero-page pointer; its second byte wraps inside the zero page (40_addressing_modes.md R140,
R141). -/
def zeroPagePointer (z : Byte) (s : State) : Word :=
  joinBytes (s.byteAt (zeroPageAddress (z + 1))) (s.byteAt (zeroPageAddress z))

/-- `EA` of each mode (40_addressing_modes.md R132 to R142). The immediate operand lies just before PC, which has passed
it. -/
def effectiveAddress (o : Operand) (s : State) : Word :=
  match o with
  | .immediate _ => s.pc - 1
  | .zeroPage z => zeroPageAddress z
  | .zeroPageX z => zeroPageAddress (z + s.x)
  | .zeroPageY z => zeroPageAddress (z + s.y)
  | .absolute a => a
  | .absoluteX a => a + zeroExtend s.x
  | .absoluteY a => a + zeroExtend s.y
  | .indirect p => joinBytes (s.byteAt (indirectHighAddress p)) (s.byteAt p)
  | .indexedIndirectX z => zeroPagePointer (z + s.x) s
  | .indirectIndexedY z => zeroPagePointer z s + zeroExtend s.y
  | .relative o => s.pc + signExtend o

/-- The pointer bytes a resolver reads, in order, beside its operand bytes (40_addressing_modes.md R147). -/
def pointerReads (o : Operand) (s : State) : List BusAccess :=
  match o with
  | .indirect p => [.read p, .read (indirectHighAddress p)]
  | .indexedIndirectX z => [.read (zeroPageAddress (z + s.x)), .read (zeroPageAddress (z + s.x + 1))]
  | .indirectIndexedY z => [.read (zeroPageAddress z), .read (zeroPageAddress (z + 1))]
  | .immediate _ | .zeroPage _ | .zeroPageX _ | .zeroPageY _ | .absolute _ | .absoluteX _ | .absoluteY _
  | .relative _ => []

/-- The page-crossed flag: an addition changed address bits 15..8 (40_addressing_modes.md R137, R138, R141, R144). -/
def pageCrossed (o : Operand) (s : State) : Bool :=
  match o with
  | .absoluteX a => highByte (a + zeroExtend s.x) != highByte a
  | .absoluteY a => highByte (a + zeroExtend s.y) != highByte a
  | .indirectIndexedY z => highByte (zeroPagePointer z s + zeroExtend s.y) != highByte (zeroPagePointer z s)
  | .immediate _ | .zeroPage _ | .zeroPageX _ | .zeroPageY _ | .absolute _ | .indirect _ | .indexedIndirectX _
  | .relative _ => false

/-- What a resolver returns (40_addressing_modes.md R130), and the state after its pointer reads. -/
structure Resolved where
  ea : Word
  crossed : Bool
  state : State

/-- `Resolve(mode)` (40_addressing_modes.md R130, R145). -/
def resolve (o : Operand) (s : State) : Resolved :=
  ⟨effectiveAddress o s, pageCrossed o s, s.record (pointerReads o s)⟩

/-- `M <- MemRead(EA, 1)` (40_addressing_modes.md R146). The immediate operand's byte at EA is the one the step fetched
with the instruction, so it is not read a second time (R132; log 5). -/
def readOperand (o : Operand) (r : Resolved) : Byte × State :=
  match o with
  | .immediate v => (v, r.state)
  | _ => memRead r.ea r.state

/-- The operand value of a mode in a state: the byte `readOperand` gives (40_addressing_modes.md R132, R146). -/
def operandValue (o : Operand) (s : State) : Byte :=
  match o with
  | .immediate v => v
  | _ => s.byteAt (effectiveAddress o s)

/-- The bus transactions of resolving a mode and reading its operand value, in order (40_addressing_modes.md R146,
R147). -/
def operandAccesses (o : Operand) (s : State) : List BusAccess :=
  match o with
  | .immediate _ => []
  | _ => pointerReads o s ++ [.read (effectiveAddress o s)]

/-- `PagePenalty(op, crossed)` (48_execute_loop.md R288). -/
def pagePenalty (cls : PenaltyClass) (crossed : Bool) (params : Params) : Nat :=
  match cls with
  | .never => 0
  | .read => if crossed then 1 else 0
  | .storeRmw => if crossed && params.pagePenaltyOnStoreRmw then 1 else 0

/-! ### The shapes of the instructions -/

/-- An instruction that consumes the value at EA (40_addressing_modes.md R146; 48_execute_loop.md R285, R286). -/
def readForm (o : Operand) (base : Nat) (cls : PenaltyClass) (handler : Byte → State → State) (s : State) : Answer :=
  let r := resolve o s
  let (m, s1) := readOperand o r
  .next (charge (base + pagePenalty cls r.crossed s.params) (handler m s1))

/-- An instruction that stores a register at EA, without reading it (40_addressing_modes.md R146). -/
def storeForm (o : Operand) (base : Nat) (cls : PenaltyClass) (value : State → Byte) (s : State) : Answer :=
  let r := resolve o s
  .next (charge (base + pagePenalty cls r.crossed s.params) (memWrite r.ea (value r.state) r.state))

/-- A read-modify-write instruction: one read of EA, then one write (20_memory.md R76; 44_shift_rotate.md R210). `f` gives
the byte written and the status after it. -/
def modifyForm (o : Operand) (base : Nat) (cls : PenaltyClass) (f : Byte → Status → Byte × Status) (s : State) : Answer :=
  let r := resolve o s
  let (m, s1) := memRead r.ea r.state
  let (v, p) := f m s1.p
  let s2 := memWrite r.ea v s1
  .next (charge (base + pagePenalty cls r.crossed s.params) { s2 with p := p })

/-- The accumulator form of a shift or rotate (44_shift_rotate.md R210). -/
def accumulatorForm (f : Byte → Status → Byte × Status) (s : State) : Answer :=
  let (v, p) := f s.a s.p
  .next (charge 2 { s with a := v, p := p })

/-- A NoOperand instruction: its handler and its base cycles (48_execute_loop.md R284, R286). -/
def impliedForm (base : Nat) (handler : State → State) (s : State) : Answer := .next (charge base (handler s))

/-- A control transfer to EA (45_control_transfer.md R229, R230). -/
def jumpForm (o : Operand) (base : Nat) (handler : Word → State → State) (s : State) : Answer :=
  let r := resolve o s
  .next (charge base (handler r.ea r.state))

/-- `Branch(cond)` (45_control_transfer.md R220): base 2, one more when taken, one more again when the target is on
another page than the next instruction, whose address PC holds. -/
def branchForm (o : Byte) (cond : Bool) (s : State) : Answer :=
  let r := resolve (.relative o) s
  if cond then
    .next (charge (2 + 1 + if page r.ea != page r.state.pc then 1 else 0) { r.state with pc := r.ea })
  else .next (charge 2 r.state)

end Sys2Proof.Machine
end

