-- ==== Sys2Proof/Machine/Arithmetic.lean ====
section
/-! DEFINITION. Arithmetic, compare, increment and decrement (42_arithmetic.md R170 to R187): one meaning for each opcode. -/

namespace Sys2Proof.Machine

/-- ADC on A (42_arithmetic.md R171, R172). -/
def adc (m : Byte) (s : State) : State :=
  let (r, p) := addWithCarry s.a m s.p
  { s with a := r, p := p }

/-- SBC on A (42_arithmetic.md R173, R174). -/
def sbc (m : Byte) (s : State) : State :=
  let (r, p) := subtractWithCarry s.a m s.p
  { s with a := r, p := p }

/-- `Compare(A, M)` (42_arithmetic.md R176). -/
def compareA (m : Byte) (s : State) : State := { s with p := s.p.compare s.a m }

/-- `Compare(X, M)` (42_arithmetic.md R177). -/
def compareX (m : Byte) (s : State) : State := { s with p := s.p.compare s.x m }

/-- `Compare(Y, M)` (42_arithmetic.md R178). -/
def compareY (m : Byte) (s : State) : State := { s with p := s.p.compare s.y m }

/-- `r <- byte(M + 1); SetNZ(r)` (42_arithmetic.md R179). -/
def increment (m : Byte) (p : Status) : Byte × Status := (m + 1, p.setNZ (m + 1))

/-- `r <- byte(M - 1); SetNZ(r)` (42_arithmetic.md R180). -/
def decrement (m : Byte) (p : Status) : Byte × Status := (m - 1, p.setNZ (m - 1))

/-- ADC Immediate, opcode 0x69 (42_arithmetic.md R171). -/
def execAdcImmediate (v : Byte) (s : State) : Answer := readForm (.immediate v) 2 .never adc s

/-- ADC ZeroPage, opcode 0x65 (42_arithmetic.md R171). -/
def execAdcZeroPage (z : Byte) (s : State) : Answer := readForm (.zeroPage z) 3 .never adc s

/-- ADC ZeroPageX, opcode 0x75 (42_arithmetic.md R171). -/
def execAdcZeroPageX (z : Byte) (s : State) : Answer := readForm (.zeroPageX z) 4 .never adc s

/-- ADC Absolute, opcode 0x6D (42_arithmetic.md R171). -/
def execAdcAbsolute (a : Word) (s : State) : Answer := readForm (.absolute a) 4 .never adc s

/-- ADC AbsoluteX, opcode 0x7D (42_arithmetic.md R171). -/
def execAdcAbsoluteX (a : Word) (s : State) : Answer := readForm (.absoluteX a) 4 .read adc s

/-- ADC AbsoluteY, opcode 0x79 (42_arithmetic.md R171). -/
def execAdcAbsoluteY (a : Word) (s : State) : Answer := readForm (.absoluteY a) 4 .read adc s

/-- ADC IndexedIndirectX, opcode 0x61 (42_arithmetic.md R171). -/
def execAdcIndexedIndirectX (z : Byte) (s : State) : Answer := readForm (.indexedIndirectX z) 6 .never adc s

/-- ADC IndirectIndexedY, opcode 0x71 (42_arithmetic.md R171). -/
def execAdcIndirectIndexedY (z : Byte) (s : State) : Answer := readForm (.indirectIndexedY z) 5 .read adc s

/-- SBC Immediate, opcode 0xE9 (42_arithmetic.md R173). -/
def execSbcImmediate (v : Byte) (s : State) : Answer := readForm (.immediate v) 2 .never sbc s

/-- SBC ZeroPage, opcode 0xE5 (42_arithmetic.md R173). -/
def execSbcZeroPage (z : Byte) (s : State) : Answer := readForm (.zeroPage z) 3 .never sbc s

/-- SBC ZeroPageX, opcode 0xF5 (42_arithmetic.md R173). -/
def execSbcZeroPageX (z : Byte) (s : State) : Answer := readForm (.zeroPageX z) 4 .never sbc s

/-- SBC Absolute, opcode 0xED (42_arithmetic.md R173). -/
def execSbcAbsolute (a : Word) (s : State) : Answer := readForm (.absolute a) 4 .never sbc s

/-- SBC AbsoluteX, opcode 0xFD (42_arithmetic.md R173). -/
def execSbcAbsoluteX (a : Word) (s : State) : Answer := readForm (.absoluteX a) 4 .read sbc s

/-- SBC AbsoluteY, opcode 0xF9 (42_arithmetic.md R173). -/
def execSbcAbsoluteY (a : Word) (s : State) : Answer := readForm (.absoluteY a) 4 .read sbc s

/-- SBC IndexedIndirectX, opcode 0xE1 (42_arithmetic.md R173). -/
def execSbcIndexedIndirectX (z : Byte) (s : State) : Answer := readForm (.indexedIndirectX z) 6 .never sbc s

/-- SBC IndirectIndexedY, opcode 0xF1 (42_arithmetic.md R173). -/
def execSbcIndirectIndexedY (z : Byte) (s : State) : Answer := readForm (.indirectIndexedY z) 5 .read sbc s

/-- CMP Immediate, opcode 0xC9 (42_arithmetic.md R176). -/
def execCmpImmediate (v : Byte) (s : State) : Answer := readForm (.immediate v) 2 .never compareA s

/-- CMP ZeroPage, opcode 0xC5 (42_arithmetic.md R176). -/
def execCmpZeroPage (z : Byte) (s : State) : Answer := readForm (.zeroPage z) 3 .never compareA s

/-- CMP ZeroPageX, opcode 0xD5 (42_arithmetic.md R176). -/
def execCmpZeroPageX (z : Byte) (s : State) : Answer := readForm (.zeroPageX z) 4 .never compareA s

/-- CMP Absolute, opcode 0xCD (42_arithmetic.md R176). -/
def execCmpAbsolute (a : Word) (s : State) : Answer := readForm (.absolute a) 4 .never compareA s

/-- CMP AbsoluteX, opcode 0xDD (42_arithmetic.md R176). -/
def execCmpAbsoluteX (a : Word) (s : State) : Answer := readForm (.absoluteX a) 4 .read compareA s

/-- CMP AbsoluteY, opcode 0xD9 (42_arithmetic.md R176). -/
def execCmpAbsoluteY (a : Word) (s : State) : Answer := readForm (.absoluteY a) 4 .read compareA s

/-- CMP IndexedIndirectX, opcode 0xC1 (42_arithmetic.md R176). -/
def execCmpIndexedIndirectX (z : Byte) (s : State) : Answer := readForm (.indexedIndirectX z) 6 .never compareA s

/-- CMP IndirectIndexedY, opcode 0xD1 (42_arithmetic.md R176). -/
def execCmpIndirectIndexedY (z : Byte) (s : State) : Answer := readForm (.indirectIndexedY z) 5 .read compareA s

/-- CPX Immediate, opcode 0xE0 (42_arithmetic.md R177). -/
def execCpxImmediate (v : Byte) (s : State) : Answer := readForm (.immediate v) 2 .never compareX s

/-- CPX ZeroPage, opcode 0xE4 (42_arithmetic.md R177). -/
def execCpxZeroPage (z : Byte) (s : State) : Answer := readForm (.zeroPage z) 3 .never compareX s

/-- CPX Absolute, opcode 0xEC (42_arithmetic.md R177). -/
def execCpxAbsolute (a : Word) (s : State) : Answer := readForm (.absolute a) 4 .never compareX s

/-- CPY Immediate, opcode 0xC0 (42_arithmetic.md R178). -/
def execCpyImmediate (v : Byte) (s : State) : Answer := readForm (.immediate v) 2 .never compareY s

/-- CPY ZeroPage, opcode 0xC4 (42_arithmetic.md R178). -/
def execCpyZeroPage (z : Byte) (s : State) : Answer := readForm (.zeroPage z) 3 .never compareY s

/-- CPY Absolute, opcode 0xCC (42_arithmetic.md R178). -/
def execCpyAbsolute (a : Word) (s : State) : Answer := readForm (.absolute a) 4 .never compareY s

/-- INC ZeroPage, opcode 0xE6 (42_arithmetic.md R179). -/
def execIncZeroPage (z : Byte) (s : State) : Answer := modifyForm (.zeroPage z) 5 .never increment s

/-- INC ZeroPageX, opcode 0xF6 (42_arithmetic.md R179). -/
def execIncZeroPageX (z : Byte) (s : State) : Answer := modifyForm (.zeroPageX z) 6 .never increment s

/-- INC Absolute, opcode 0xEE (42_arithmetic.md R179). -/
def execIncAbsolute (a : Word) (s : State) : Answer := modifyForm (.absolute a) 6 .never increment s

/-- INC AbsoluteX, opcode 0xFE (42_arithmetic.md R179). -/
def execIncAbsoluteX (a : Word) (s : State) : Answer := modifyForm (.absoluteX a) 7 .storeRmw increment s

/-- DEC ZeroPage, opcode 0xC6 (42_arithmetic.md R180). -/
def execDecZeroPage (z : Byte) (s : State) : Answer := modifyForm (.zeroPage z) 5 .never decrement s

/-- DEC ZeroPageX, opcode 0xD6 (42_arithmetic.md R180). -/
def execDecZeroPageX (z : Byte) (s : State) : Answer := modifyForm (.zeroPageX z) 6 .never decrement s

/-- DEC Absolute, opcode 0xCE (42_arithmetic.md R180). -/
def execDecAbsolute (a : Word) (s : State) : Answer := modifyForm (.absolute a) 6 .never decrement s

/-- DEC AbsoluteX, opcode 0xDE (42_arithmetic.md R180). -/
def execDecAbsoluteX (a : Word) (s : State) : Answer := modifyForm (.absoluteX a) 7 .storeRmw decrement s

/-- INX Implied, opcode 0xE8 (42_arithmetic.md R181). -/
def execInx (s : State) : Answer := impliedForm 2 (fun s => setNZ (s.x + 1) { s with x := s.x + 1 }) s

/-- INY Implied, opcode 0xC8 (42_arithmetic.md R182). -/
def execIny (s : State) : Answer := impliedForm 2 (fun s => setNZ (s.y + 1) { s with y := s.y + 1 }) s

/-- DEX Implied, opcode 0xCA (42_arithmetic.md R183). -/
def execDex (s : State) : Answer := impliedForm 2 (fun s => setNZ (s.x - 1) { s with x := s.x - 1 }) s

/-- DEY Implied, opcode 0x88 (42_arithmetic.md R184). -/
def execDey (s : State) : Answer := impliedForm 2 (fun s => setNZ (s.y - 1) { s with y := s.y - 1 }) s

end Sys2Proof.Machine
end

