-- ==== Sys2Proof/Machine/Control.lean ====
section
/-! DEFINITION. Branches, jumps, calls and returns (45_control_transfer.md R220 to R233): one meaning for each opcode. -/

namespace Sys2Proof.Machine

/-- BPL Relative, opcode 0x10 (45_control_transfer.md R221). -/
def execBpl (o : Byte) (s : State) : Answer := branchForm o (!s.p.n) s

/-- BMI Relative, opcode 0x30 (45_control_transfer.md R222). -/
def execBmi (o : Byte) (s : State) : Answer := branchForm o (s.p.n) s

/-- BVC Relative, opcode 0x50 (45_control_transfer.md R223). -/
def execBvc (o : Byte) (s : State) : Answer := branchForm o (!s.p.v) s

/-- BVS Relative, opcode 0x70 (45_control_transfer.md R224). -/
def execBvs (o : Byte) (s : State) : Answer := branchForm o (s.p.v) s

/-- BCC Relative, opcode 0x90 (45_control_transfer.md R225). -/
def execBcc (o : Byte) (s : State) : Answer := branchForm o (!s.p.c) s

/-- BCS Relative, opcode 0xB0 (45_control_transfer.md R226). -/
def execBcs (o : Byte) (s : State) : Answer := branchForm o (s.p.c) s

/-- BNE Relative, opcode 0xD0 (45_control_transfer.md R227). -/
def execBne (o : Byte) (s : State) : Answer := branchForm o (!s.p.z) s

/-- BEQ Relative, opcode 0xF0 (45_control_transfer.md R228). -/
def execBeq (o : Byte) (s : State) : Answer := branchForm o (s.p.z) s

/-- JMP Absolute, opcode 0x4C (45_control_transfer.md R229). -/
def execJmpAbsolute (a : Word) (s : State) : Answer := jumpForm (.absolute a) 3 (fun ea s => { s with pc := ea }) s

/-- JMP Indirect, opcode 0x6C (45_control_transfer.md R229). -/
def execJmpIndirect (p : Word) (s : State) : Answer := jumpForm (.indirect p) 5 (fun ea s => { s with pc := ea }) s

/-- JSR Absolute, opcode 0x20 (45_control_transfer.md R230). -/
def execJsr (a : Word) (s : State) : Answer :=
  jumpForm (.absolute a) 6 (fun ea s => { push16 (s.pc - 1) s with pc := ea }) s

/-- RTS Implied, opcode 0x60 (45_control_transfer.md R231). -/
def execRts (s : State) : Answer := impliedForm 6 (fun s => let (w, s1) := pull16 s; { s1 with pc := w + 1 }) s

end Sys2Proof.Machine
end

