-- ==== Sys2Proof/Machine/LoadStore.lean ====
section
/-! DEFINITION. Load and store instructions (41_load_store.md R160 to R165): one meaning for each opcode, with its base cycles and
page penalty. -/

namespace Sys2Proof.Machine

/-- `A <- M; SetNZ(A)` (41_load_store.md R160). -/
def loadA (m : Byte) (s : State) : State := setNZ m { s with a := m }

/-- `X <- M; SetNZ(X)` (41_load_store.md R161). -/
def loadX (m : Byte) (s : State) : State := setNZ m { s with x := m }

/-- `Y <- M; SetNZ(Y)` (41_load_store.md R162). -/
def loadY (m : Byte) (s : State) : State := setNZ m { s with y := m }

/-- LDA Immediate, opcode 0xA9 (41_load_store.md R160). -/
def execLdaImmediate (v : Byte) (s : State) : Answer := readForm (.immediate v) 2 .never loadA s

/-- LDA ZeroPage, opcode 0xA5 (41_load_store.md R160). -/
def execLdaZeroPage (z : Byte) (s : State) : Answer := readForm (.zeroPage z) 3 .never loadA s

/-- LDA ZeroPageX, opcode 0xB5 (41_load_store.md R160). -/
def execLdaZeroPageX (z : Byte) (s : State) : Answer := readForm (.zeroPageX z) 4 .never loadA s

/-- LDA Absolute, opcode 0xAD (41_load_store.md R160). -/
def execLdaAbsolute (a : Word) (s : State) : Answer := readForm (.absolute a) 4 .never loadA s

/-- LDA AbsoluteX, opcode 0xBD (41_load_store.md R160). -/
def execLdaAbsoluteX (a : Word) (s : State) : Answer := readForm (.absoluteX a) 4 .read loadA s

/-- LDA AbsoluteY, opcode 0xB9 (41_load_store.md R160). -/
def execLdaAbsoluteY (a : Word) (s : State) : Answer := readForm (.absoluteY a) 4 .read loadA s

/-- LDA IndexedIndirectX, opcode 0xA1 (41_load_store.md R160). -/
def execLdaIndexedIndirectX (z : Byte) (s : State) : Answer := readForm (.indexedIndirectX z) 6 .never loadA s

/-- LDA IndirectIndexedY, opcode 0xB1 (41_load_store.md R160). -/
def execLdaIndirectIndexedY (z : Byte) (s : State) : Answer := readForm (.indirectIndexedY z) 5 .read loadA s

/-- LDX Immediate, opcode 0xA2 (41_load_store.md R161). -/
def execLdxImmediate (v : Byte) (s : State) : Answer := readForm (.immediate v) 2 .never loadX s

/-- LDX ZeroPage, opcode 0xA6 (41_load_store.md R161). -/
def execLdxZeroPage (z : Byte) (s : State) : Answer := readForm (.zeroPage z) 3 .never loadX s

/-- LDX ZeroPageY, opcode 0xB6 (41_load_store.md R161). -/
def execLdxZeroPageY (z : Byte) (s : State) : Answer := readForm (.zeroPageY z) 4 .never loadX s

/-- LDX Absolute, opcode 0xAE (41_load_store.md R161). -/
def execLdxAbsolute (a : Word) (s : State) : Answer := readForm (.absolute a) 4 .never loadX s

/-- LDX AbsoluteY, opcode 0xBE (41_load_store.md R161). -/
def execLdxAbsoluteY (a : Word) (s : State) : Answer := readForm (.absoluteY a) 4 .read loadX s

/-- LDY Immediate, opcode 0xA0 (41_load_store.md R162). -/
def execLdyImmediate (v : Byte) (s : State) : Answer := readForm (.immediate v) 2 .never loadY s

/-- LDY ZeroPage, opcode 0xA4 (41_load_store.md R162). -/
def execLdyZeroPage (z : Byte) (s : State) : Answer := readForm (.zeroPage z) 3 .never loadY s

/-- LDY ZeroPageX, opcode 0xB4 (41_load_store.md R162). -/
def execLdyZeroPageX (z : Byte) (s : State) : Answer := readForm (.zeroPageX z) 4 .never loadY s

/-- LDY Absolute, opcode 0xAC (41_load_store.md R162). -/
def execLdyAbsolute (a : Word) (s : State) : Answer := readForm (.absolute a) 4 .never loadY s

/-- LDY AbsoluteX, opcode 0xBC (41_load_store.md R162). -/
def execLdyAbsoluteX (a : Word) (s : State) : Answer := readForm (.absoluteX a) 4 .read loadY s

/-- STA ZeroPage, opcode 0x85 (41_load_store.md R163). -/
def execStaZeroPage (z : Byte) (s : State) : Answer := storeForm (.zeroPage z) 3 .never State.a s

/-- STA ZeroPageX, opcode 0x95 (41_load_store.md R163). -/
def execStaZeroPageX (z : Byte) (s : State) : Answer := storeForm (.zeroPageX z) 4 .never State.a s

/-- STA Absolute, opcode 0x8D (41_load_store.md R163). -/
def execStaAbsolute (a : Word) (s : State) : Answer := storeForm (.absolute a) 4 .never State.a s

/-- STA AbsoluteX, opcode 0x9D (41_load_store.md R163). -/
def execStaAbsoluteX (a : Word) (s : State) : Answer := storeForm (.absoluteX a) 5 .storeRmw State.a s

/-- STA AbsoluteY, opcode 0x99 (41_load_store.md R163). -/
def execStaAbsoluteY (a : Word) (s : State) : Answer := storeForm (.absoluteY a) 5 .storeRmw State.a s

/-- STA IndexedIndirectX, opcode 0x81 (41_load_store.md R163). -/
def execStaIndexedIndirectX (z : Byte) (s : State) : Answer := storeForm (.indexedIndirectX z) 6 .never State.a s

/-- STA IndirectIndexedY, opcode 0x91 (41_load_store.md R163). -/
def execStaIndirectIndexedY (z : Byte) (s : State) : Answer := storeForm (.indirectIndexedY z) 6 .storeRmw State.a s

/-- STX ZeroPage, opcode 0x86 (41_load_store.md R164). -/
def execStxZeroPage (z : Byte) (s : State) : Answer := storeForm (.zeroPage z) 3 .never State.x s

/-- STX ZeroPageY, opcode 0x96 (41_load_store.md R164). -/
def execStxZeroPageY (z : Byte) (s : State) : Answer := storeForm (.zeroPageY z) 4 .never State.x s

/-- STX Absolute, opcode 0x8E (41_load_store.md R164). -/
def execStxAbsolute (a : Word) (s : State) : Answer := storeForm (.absolute a) 4 .never State.x s

/-- STY ZeroPage, opcode 0x84 (41_load_store.md R165). -/
def execStyZeroPage (z : Byte) (s : State) : Answer := storeForm (.zeroPage z) 3 .never State.y s

/-- STY ZeroPageX, opcode 0x94 (41_load_store.md R165). -/
def execStyZeroPageX (z : Byte) (s : State) : Answer := storeForm (.zeroPageX z) 4 .never State.y s

/-- STY Absolute, opcode 0x8C (41_load_store.md R165). -/
def execStyAbsolute (a : Word) (s : State) : Answer := storeForm (.absolute a) 4 .never State.y s

end Sys2Proof.Machine
end

