-- ==== Sys2Proof/Machine/Logical.lean ====
section
/-! DEFINITION. Logical instructions (43_logical.md R200 to R203): one meaning for each opcode. -/

namespace Sys2Proof.Machine

/-- `A <- A & M; SetNZ(A)` (43_logical.md R200). -/
def andA (m : Byte) (s : State) : State := setNZ (s.a &&& m) { s with a := s.a &&& m }

/-- `A <- A | M; SetNZ(A)` (43_logical.md R201). -/
def oraA (m : Byte) (s : State) : State := setNZ (s.a ||| m) { s with a := s.a ||| m }

/-- `A <- A ^ M; SetNZ(A)` (43_logical.md R202). -/
def eorA (m : Byte) (s : State) : State := setNZ (s.a ^^^ m) { s with a := s.a ^^^ m }

/-- BIT: the flags only (43_logical.md R203). -/
def bitA (m : Byte) (s : State) : State := { s with p := s.p.bitTest s.a m }

/-- AND Immediate, opcode 0x29 (43_logical.md R200). -/
def execAndImmediate (v : Byte) (s : State) : Answer := readForm (.immediate v) 2 .never andA s

/-- AND ZeroPage, opcode 0x25 (43_logical.md R200). -/
def execAndZeroPage (z : Byte) (s : State) : Answer := readForm (.zeroPage z) 3 .never andA s

/-- AND ZeroPageX, opcode 0x35 (43_logical.md R200). -/
def execAndZeroPageX (z : Byte) (s : State) : Answer := readForm (.zeroPageX z) 4 .never andA s

/-- AND Absolute, opcode 0x2D (43_logical.md R200). -/
def execAndAbsolute (a : Word) (s : State) : Answer := readForm (.absolute a) 4 .never andA s

/-- AND AbsoluteX, opcode 0x3D (43_logical.md R200). -/
def execAndAbsoluteX (a : Word) (s : State) : Answer := readForm (.absoluteX a) 4 .read andA s

/-- AND AbsoluteY, opcode 0x39 (43_logical.md R200). -/
def execAndAbsoluteY (a : Word) (s : State) : Answer := readForm (.absoluteY a) 4 .read andA s

/-- AND IndexedIndirectX, opcode 0x21 (43_logical.md R200). -/
def execAndIndexedIndirectX (z : Byte) (s : State) : Answer := readForm (.indexedIndirectX z) 6 .never andA s

/-- AND IndirectIndexedY, opcode 0x31 (43_logical.md R200). -/
def execAndIndirectIndexedY (z : Byte) (s : State) : Answer := readForm (.indirectIndexedY z) 5 .read andA s

/-- ORA Immediate, opcode 0x09 (43_logical.md R201). -/
def execOraImmediate (v : Byte) (s : State) : Answer := readForm (.immediate v) 2 .never oraA s

/-- ORA ZeroPage, opcode 0x05 (43_logical.md R201). -/
def execOraZeroPage (z : Byte) (s : State) : Answer := readForm (.zeroPage z) 3 .never oraA s

/-- ORA ZeroPageX, opcode 0x15 (43_logical.md R201). -/
def execOraZeroPageX (z : Byte) (s : State) : Answer := readForm (.zeroPageX z) 4 .never oraA s

/-- ORA Absolute, opcode 0x0D (43_logical.md R201). -/
def execOraAbsolute (a : Word) (s : State) : Answer := readForm (.absolute a) 4 .never oraA s

/-- ORA AbsoluteX, opcode 0x1D (43_logical.md R201). -/
def execOraAbsoluteX (a : Word) (s : State) : Answer := readForm (.absoluteX a) 4 .read oraA s

/-- ORA AbsoluteY, opcode 0x19 (43_logical.md R201). -/
def execOraAbsoluteY (a : Word) (s : State) : Answer := readForm (.absoluteY a) 4 .read oraA s

/-- ORA IndexedIndirectX, opcode 0x01 (43_logical.md R201). -/
def execOraIndexedIndirectX (z : Byte) (s : State) : Answer := readForm (.indexedIndirectX z) 6 .never oraA s

/-- ORA IndirectIndexedY, opcode 0x11 (43_logical.md R201). -/
def execOraIndirectIndexedY (z : Byte) (s : State) : Answer := readForm (.indirectIndexedY z) 5 .read oraA s

/-- EOR Immediate, opcode 0x49 (43_logical.md R202). -/
def execEorImmediate (v : Byte) (s : State) : Answer := readForm (.immediate v) 2 .never eorA s

/-- EOR ZeroPage, opcode 0x45 (43_logical.md R202). -/
def execEorZeroPage (z : Byte) (s : State) : Answer := readForm (.zeroPage z) 3 .never eorA s

/-- EOR ZeroPageX, opcode 0x55 (43_logical.md R202). -/
def execEorZeroPageX (z : Byte) (s : State) : Answer := readForm (.zeroPageX z) 4 .never eorA s

/-- EOR Absolute, opcode 0x4D (43_logical.md R202). -/
def execEorAbsolute (a : Word) (s : State) : Answer := readForm (.absolute a) 4 .never eorA s

/-- EOR AbsoluteX, opcode 0x5D (43_logical.md R202). -/
def execEorAbsoluteX (a : Word) (s : State) : Answer := readForm (.absoluteX a) 4 .read eorA s

/-- EOR AbsoluteY, opcode 0x59 (43_logical.md R202). -/
def execEorAbsoluteY (a : Word) (s : State) : Answer := readForm (.absoluteY a) 4 .read eorA s

/-- EOR IndexedIndirectX, opcode 0x41 (43_logical.md R202). -/
def execEorIndexedIndirectX (z : Byte) (s : State) : Answer := readForm (.indexedIndirectX z) 6 .never eorA s

/-- EOR IndirectIndexedY, opcode 0x51 (43_logical.md R202). -/
def execEorIndirectIndexedY (z : Byte) (s : State) : Answer := readForm (.indirectIndexedY z) 5 .read eorA s

/-- BIT ZeroPage, opcode 0x24 (43_logical.md R203). -/
def execBitZeroPage (z : Byte) (s : State) : Answer := readForm (.zeroPage z) 3 .never bitA s

/-- BIT Absolute, opcode 0x2C (43_logical.md R203). -/
def execBitAbsolute (a : Word) (s : State) : Answer := readForm (.absolute a) 4 .never bitA s

end Sys2Proof.Machine
end

