-- ==== Sys2Proof/Machine/Shift.lean ====
section
/-! DEFINITION. Shift and rotate instructions (44_shift_rotate.md R210 to R214): one meaning for each opcode. -/

namespace Sys2Proof.Machine

/-- ASL (44_shift_rotate.md R210, R211). -/
def asl (v : Byte) (p : Status) : Byte × Status := ((shiftLeft v).1, p.setShift (shiftLeft v))

/-- LSR (44_shift_rotate.md R210, R212). -/
def lsr (v : Byte) (p : Status) : Byte × Status := ((shiftRight v).1, p.setShift (shiftRight v))

/-- ROL, with P.C read before it is written (44_shift_rotate.md R210, R213). -/
def rol (v : Byte) (p : Status) : Byte × Status := ((rotateLeft p.c v).1, p.setShift (rotateLeft p.c v))

/-- ROR, with P.C read before it is written (44_shift_rotate.md R210, R214). -/
def ror (v : Byte) (p : Status) : Byte × Status := ((rotateRight p.c v).1, p.setShift (rotateRight p.c v))

/-- ASL Accumulator, opcode 0x0A (44_shift_rotate.md R211). -/
def execAslAccumulator (s : State) : Answer := accumulatorForm asl s

/-- ASL ZeroPage, opcode 0x06 (44_shift_rotate.md R211). -/
def execAslZeroPage (z : Byte) (s : State) : Answer := modifyForm (.zeroPage z) 5 .never asl s

/-- ASL ZeroPageX, opcode 0x16 (44_shift_rotate.md R211). -/
def execAslZeroPageX (z : Byte) (s : State) : Answer := modifyForm (.zeroPageX z) 6 .never asl s

/-- ASL Absolute, opcode 0x0E (44_shift_rotate.md R211). -/
def execAslAbsolute (a : Word) (s : State) : Answer := modifyForm (.absolute a) 6 .never asl s

/-- ASL AbsoluteX, opcode 0x1E (44_shift_rotate.md R211). -/
def execAslAbsoluteX (a : Word) (s : State) : Answer := modifyForm (.absoluteX a) 7 .storeRmw asl s

/-- LSR Accumulator, opcode 0x4A (44_shift_rotate.md R212). -/
def execLsrAccumulator (s : State) : Answer := accumulatorForm lsr s

/-- LSR ZeroPage, opcode 0x46 (44_shift_rotate.md R212). -/
def execLsrZeroPage (z : Byte) (s : State) : Answer := modifyForm (.zeroPage z) 5 .never lsr s

/-- LSR ZeroPageX, opcode 0x56 (44_shift_rotate.md R212). -/
def execLsrZeroPageX (z : Byte) (s : State) : Answer := modifyForm (.zeroPageX z) 6 .never lsr s

/-- LSR Absolute, opcode 0x4E (44_shift_rotate.md R212). -/
def execLsrAbsolute (a : Word) (s : State) : Answer := modifyForm (.absolute a) 6 .never lsr s

/-- LSR AbsoluteX, opcode 0x5E (44_shift_rotate.md R212). -/
def execLsrAbsoluteX (a : Word) (s : State) : Answer := modifyForm (.absoluteX a) 7 .storeRmw lsr s

/-- ROL Accumulator, opcode 0x2A (44_shift_rotate.md R213). -/
def execRolAccumulator (s : State) : Answer := accumulatorForm rol s

/-- ROL ZeroPage, opcode 0x26 (44_shift_rotate.md R213). -/
def execRolZeroPage (z : Byte) (s : State) : Answer := modifyForm (.zeroPage z) 5 .never rol s

/-- ROL ZeroPageX, opcode 0x36 (44_shift_rotate.md R213). -/
def execRolZeroPageX (z : Byte) (s : State) : Answer := modifyForm (.zeroPageX z) 6 .never rol s

/-- ROL Absolute, opcode 0x2E (44_shift_rotate.md R213). -/
def execRolAbsolute (a : Word) (s : State) : Answer := modifyForm (.absolute a) 6 .never rol s

/-- ROL AbsoluteX, opcode 0x3E (44_shift_rotate.md R213). -/
def execRolAbsoluteX (a : Word) (s : State) : Answer := modifyForm (.absoluteX a) 7 .storeRmw rol s

/-- ROR Accumulator, opcode 0x6A (44_shift_rotate.md R214). -/
def execRorAccumulator (s : State) : Answer := accumulatorForm ror s

/-- ROR ZeroPage, opcode 0x66 (44_shift_rotate.md R214). -/
def execRorZeroPage (z : Byte) (s : State) : Answer := modifyForm (.zeroPage z) 5 .never ror s

/-- ROR ZeroPageX, opcode 0x76 (44_shift_rotate.md R214). -/
def execRorZeroPageX (z : Byte) (s : State) : Answer := modifyForm (.zeroPageX z) 6 .never ror s

/-- ROR Absolute, opcode 0x6E (44_shift_rotate.md R214). -/
def execRorAbsolute (a : Word) (s : State) : Answer := modifyForm (.absolute a) 6 .never ror s

/-- ROR AbsoluteX, opcode 0x7E (44_shift_rotate.md R214). -/
def execRorAbsoluteX (a : Word) (s : State) : Answer := modifyForm (.absoluteX a) 7 .storeRmw ror s

end Sys2Proof.Machine
end

