-- ==== Sys2Proof/Machine/Stack.lean ====
section
/-! DEFINITION. Stack and register-transfer instructions (46_stack_transfer.md R240 to R249): one meaning for each opcode. -/

namespace Sys2Proof.Machine

/-- PHA Implied, opcode 0x48 (46_stack_transfer.md R240). -/
def execPha (s : State) : Answer := impliedForm 3 (fun s => push s.a s) s

/-- PHP Implied, opcode 0x08 (46_stack_transfer.md R241). -/
def execPhp (s : State) : Answer := impliedForm 3 (fun s => push (s.p.pushed true) s) s

/-- PLA Implied, opcode 0x68 (46_stack_transfer.md R242). -/
def execPla (s : State) : Answer := impliedForm 4 (fun s => let (v, s1) := pull s; setNZ v { s1 with a := v }) s

/-- PLP Implied, opcode 0x28 (46_stack_transfer.md R243). -/
def execPlp (s : State) : Answer := impliedForm 4 (fun s => let (v, s1) := pull s; { s1 with p := Status.load v }) s

/-- TAX Implied, opcode 0xAA (46_stack_transfer.md R244). -/
def execTax (s : State) : Answer := impliedForm 2 (fun s => setNZ s.a { s with x := s.a }) s

/-- TAY Implied, opcode 0xA8 (46_stack_transfer.md R245). -/
def execTay (s : State) : Answer := impliedForm 2 (fun s => setNZ s.a { s with y := s.a }) s

/-- TXA Implied, opcode 0x8A (46_stack_transfer.md R246). -/
def execTxa (s : State) : Answer := impliedForm 2 (fun s => setNZ s.x { s with a := s.x }) s

/-- TYA Implied, opcode 0x98 (46_stack_transfer.md R247). -/
def execTya (s : State) : Answer := impliedForm 2 (fun s => setNZ s.y { s with a := s.y }) s

/-- TSX Implied, opcode 0xBA (46_stack_transfer.md R248). -/
def execTsx (s : State) : Answer := impliedForm 2 (fun s => setNZ s.sp { s with x := s.sp }) s

/-- TXS Implied, opcode 0x9A (46_stack_transfer.md R249). -/
def execTxs (s : State) : Answer := impliedForm 2 (fun s => { s with sp := s.x }) s

end Sys2Proof.Machine
end

