-- ==== Sys2Proof/Machine/System.lean ====
section
/-! DEFINITION. Flag, no-operation and system instructions (47_flags_system.md R260 to R270): one meaning for each opcode. -/

namespace Sys2Proof.Machine

/-- CLC Implied, opcode 0x18 (47_flags_system.md R260). -/
def execClc (s : State) : Answer := impliedForm 2 (fun s => { s with p := s.p.put .carry false }) s

/-- SEC Implied, opcode 0x38 (47_flags_system.md R261). -/
def execSec (s : State) : Answer := impliedForm 2 (fun s => { s with p := s.p.put .carry true }) s

/-- CLI Implied, opcode 0x58 (47_flags_system.md R262). -/
def execCli (s : State) : Answer := impliedForm 2 (fun s => { s with p := s.p.put .interrupt false }) s

/-- SEI Implied, opcode 0x78 (47_flags_system.md R263). -/
def execSei (s : State) : Answer := impliedForm 2 (fun s => { s with p := s.p.put .interrupt true }) s

/-- CLD Implied, opcode 0xD8 (47_flags_system.md R264). -/
def execCld (s : State) : Answer := impliedForm 2 (fun s => { s with p := s.p.put .decimal false }) s

/-- SED Implied, opcode 0xF8 (47_flags_system.md R265). -/
def execSed (s : State) : Answer := impliedForm 2 (fun s => { s with p := s.p.put .decimal true }) s

/-- CLV Implied, opcode 0xB8 (47_flags_system.md R266). -/
def execClv (s : State) : Answer := impliedForm 2 (fun s => { s with p := s.p.put .overflow false }) s

/-- NOP Implied, opcode 0xEA (47_flags_system.md R267). -/
def execNop (s : State) : Answer := impliedForm 2 (fun s => s) s

/-- BRK Implied, opcode 0x00 (47_flags_system.md R268). -/
def execBrk (s : State) : Answer := impliedForm 7 (fun s => takeException (s.pc + 1) true irqVector s) s

/-- RTI Implied, opcode 0x40 (47_flags_system.md R269). -/
def execRti (s : State) : Answer := impliedForm 6 returnFromException s

end Sys2Proof.Machine
end

