-- ==== Sys2Proof/Machine/Dispatch.lean ====
section
/-! DEFINITION. The dispatch of an instruction to its meaning (48_execute_loop.md R284, R285): one arm for each
constructor of Instr. -/

namespace Sys2Proof.Machine

def exec (i : Instr) (s : State) : Host.Outcome State Fault Refusal :=
  match i with
  -- 41 load and store
  | .ldaImmediate v => Sys2Proof.Machine.execLdaImmediate v s
  | .ldaZeroPage z => Sys2Proof.Machine.execLdaZeroPage z s
  | .ldaZeroPageX z => Sys2Proof.Machine.execLdaZeroPageX z s
  | .ldaAbsolute a => Sys2Proof.Machine.execLdaAbsolute a s
  | .ldaAbsoluteX a => Sys2Proof.Machine.execLdaAbsoluteX a s
  | .ldaAbsoluteY a => Sys2Proof.Machine.execLdaAbsoluteY a s
  | .ldaIndexedIndirectX z => Sys2Proof.Machine.execLdaIndexedIndirectX z s
  | .ldaIndirectIndexedY z => Sys2Proof.Machine.execLdaIndirectIndexedY z s
  | .ldxImmediate v => Sys2Proof.Machine.execLdxImmediate v s
  | .ldxZeroPage z => Sys2Proof.Machine.execLdxZeroPage z s
  | .ldxZeroPageY z => Sys2Proof.Machine.execLdxZeroPageY z s
  | .ldxAbsolute a => Sys2Proof.Machine.execLdxAbsolute a s
  | .ldxAbsoluteY a => Sys2Proof.Machine.execLdxAbsoluteY a s
  | .ldyImmediate v => Sys2Proof.Machine.execLdyImmediate v s
  | .ldyZeroPage z => Sys2Proof.Machine.execLdyZeroPage z s
  | .ldyZeroPageX z => Sys2Proof.Machine.execLdyZeroPageX z s
  | .ldyAbsolute a => Sys2Proof.Machine.execLdyAbsolute a s
  | .ldyAbsoluteX a => Sys2Proof.Machine.execLdyAbsoluteX a s
  | .staZeroPage z => Sys2Proof.Machine.execStaZeroPage z s
  | .staZeroPageX z => Sys2Proof.Machine.execStaZeroPageX z s
  | .staAbsolute a => Sys2Proof.Machine.execStaAbsolute a s
  | .staAbsoluteX a => Sys2Proof.Machine.execStaAbsoluteX a s
  | .staAbsoluteY a => Sys2Proof.Machine.execStaAbsoluteY a s
  | .staIndexedIndirectX z => Sys2Proof.Machine.execStaIndexedIndirectX z s
  | .staIndirectIndexedY z => Sys2Proof.Machine.execStaIndirectIndexedY z s
  | .stxZeroPage z => Sys2Proof.Machine.execStxZeroPage z s
  | .stxZeroPageY z => Sys2Proof.Machine.execStxZeroPageY z s
  | .stxAbsolute a => Sys2Proof.Machine.execStxAbsolute a s
  | .styZeroPage z => Sys2Proof.Machine.execStyZeroPage z s
  | .styZeroPageX z => Sys2Proof.Machine.execStyZeroPageX z s
  | .styAbsolute a => Sys2Proof.Machine.execStyAbsolute a s
  -- 42 arithmetic
  | .adcImmediate v => Sys2Proof.Machine.execAdcImmediate v s
  | .adcZeroPage z => Sys2Proof.Machine.execAdcZeroPage z s
  | .adcZeroPageX z => Sys2Proof.Machine.execAdcZeroPageX z s
  | .adcAbsolute a => Sys2Proof.Machine.execAdcAbsolute a s
  | .adcAbsoluteX a => Sys2Proof.Machine.execAdcAbsoluteX a s
  | .adcAbsoluteY a => Sys2Proof.Machine.execAdcAbsoluteY a s
  | .adcIndexedIndirectX z => Sys2Proof.Machine.execAdcIndexedIndirectX z s
  | .adcIndirectIndexedY z => Sys2Proof.Machine.execAdcIndirectIndexedY z s
  | .sbcImmediate v => Sys2Proof.Machine.execSbcImmediate v s
  | .sbcZeroPage z => Sys2Proof.Machine.execSbcZeroPage z s
  | .sbcZeroPageX z => Sys2Proof.Machine.execSbcZeroPageX z s
  | .sbcAbsolute a => Sys2Proof.Machine.execSbcAbsolute a s
  | .sbcAbsoluteX a => Sys2Proof.Machine.execSbcAbsoluteX a s
  | .sbcAbsoluteY a => Sys2Proof.Machine.execSbcAbsoluteY a s
  | .sbcIndexedIndirectX z => Sys2Proof.Machine.execSbcIndexedIndirectX z s
  | .sbcIndirectIndexedY z => Sys2Proof.Machine.execSbcIndirectIndexedY z s
  | .cmpImmediate v => Sys2Proof.Machine.execCmpImmediate v s
  | .cmpZeroPage z => Sys2Proof.Machine.execCmpZeroPage z s
  | .cmpZeroPageX z => Sys2Proof.Machine.execCmpZeroPageX z s
  | .cmpAbsolute a => Sys2Proof.Machine.execCmpAbsolute a s
  | .cmpAbsoluteX a => Sys2Proof.Machine.execCmpAbsoluteX a s
  | .cmpAbsoluteY a => Sys2Proof.Machine.execCmpAbsoluteY a s
  | .cmpIndexedIndirectX z => Sys2Proof.Machine.execCmpIndexedIndirectX z s
  | .cmpIndirectIndexedY z => Sys2Proof.Machine.execCmpIndirectIndexedY z s
  | .cpxImmediate v => Sys2Proof.Machine.execCpxImmediate v s
  | .cpxZeroPage z => Sys2Proof.Machine.execCpxZeroPage z s
  | .cpxAbsolute a => Sys2Proof.Machine.execCpxAbsolute a s
  | .cpyImmediate v => Sys2Proof.Machine.execCpyImmediate v s
  | .cpyZeroPage z => Sys2Proof.Machine.execCpyZeroPage z s
  | .cpyAbsolute a => Sys2Proof.Machine.execCpyAbsolute a s
  | .incZeroPage z => Sys2Proof.Machine.execIncZeroPage z s
  | .incZeroPageX z => Sys2Proof.Machine.execIncZeroPageX z s
  | .incAbsolute a => Sys2Proof.Machine.execIncAbsolute a s
  | .incAbsoluteX a => Sys2Proof.Machine.execIncAbsoluteX a s
  | .decZeroPage z => Sys2Proof.Machine.execDecZeroPage z s
  | .decZeroPageX z => Sys2Proof.Machine.execDecZeroPageX z s
  | .decAbsolute a => Sys2Proof.Machine.execDecAbsolute a s
  | .decAbsoluteX a => Sys2Proof.Machine.execDecAbsoluteX a s
  | .inx => Sys2Proof.Machine.execInx s
  | .iny => Sys2Proof.Machine.execIny s
  | .dex => Sys2Proof.Machine.execDex s
  | .dey => Sys2Proof.Machine.execDey s
  -- 43 logical
  | .andImmediate v => Sys2Proof.Machine.execAndImmediate v s
  | .andZeroPage z => Sys2Proof.Machine.execAndZeroPage z s
  | .andZeroPageX z => Sys2Proof.Machine.execAndZeroPageX z s
  | .andAbsolute a => Sys2Proof.Machine.execAndAbsolute a s
  | .andAbsoluteX a => Sys2Proof.Machine.execAndAbsoluteX a s
  | .andAbsoluteY a => Sys2Proof.Machine.execAndAbsoluteY a s
  | .andIndexedIndirectX z => Sys2Proof.Machine.execAndIndexedIndirectX z s
  | .andIndirectIndexedY z => Sys2Proof.Machine.execAndIndirectIndexedY z s
  | .oraImmediate v => Sys2Proof.Machine.execOraImmediate v s
  | .oraZeroPage z => Sys2Proof.Machine.execOraZeroPage z s
  | .oraZeroPageX z => Sys2Proof.Machine.execOraZeroPageX z s
  | .oraAbsolute a => Sys2Proof.Machine.execOraAbsolute a s
  | .oraAbsoluteX a => Sys2Proof.Machine.execOraAbsoluteX a s
  | .oraAbsoluteY a => Sys2Proof.Machine.execOraAbsoluteY a s
  | .oraIndexedIndirectX z => Sys2Proof.Machine.execOraIndexedIndirectX z s
  | .oraIndirectIndexedY z => Sys2Proof.Machine.execOraIndirectIndexedY z s
  | .eorImmediate v => Sys2Proof.Machine.execEorImmediate v s
  | .eorZeroPage z => Sys2Proof.Machine.execEorZeroPage z s
  | .eorZeroPageX z => Sys2Proof.Machine.execEorZeroPageX z s
  | .eorAbsolute a => Sys2Proof.Machine.execEorAbsolute a s
  | .eorAbsoluteX a => Sys2Proof.Machine.execEorAbsoluteX a s
  | .eorAbsoluteY a => Sys2Proof.Machine.execEorAbsoluteY a s
  | .eorIndexedIndirectX z => Sys2Proof.Machine.execEorIndexedIndirectX z s
  | .eorIndirectIndexedY z => Sys2Proof.Machine.execEorIndirectIndexedY z s
  | .bitZeroPage z => Sys2Proof.Machine.execBitZeroPage z s
  | .bitAbsolute a => Sys2Proof.Machine.execBitAbsolute a s
  -- 44 shift and rotate
  | .aslAccumulator => Sys2Proof.Machine.execAslAccumulator s
  | .aslZeroPage z => Sys2Proof.Machine.execAslZeroPage z s
  | .aslZeroPageX z => Sys2Proof.Machine.execAslZeroPageX z s
  | .aslAbsolute a => Sys2Proof.Machine.execAslAbsolute a s
  | .aslAbsoluteX a => Sys2Proof.Machine.execAslAbsoluteX a s
  | .lsrAccumulator => Sys2Proof.Machine.execLsrAccumulator s
  | .lsrZeroPage z => Sys2Proof.Machine.execLsrZeroPage z s
  | .lsrZeroPageX z => Sys2Proof.Machine.execLsrZeroPageX z s
  | .lsrAbsolute a => Sys2Proof.Machine.execLsrAbsolute a s
  | .lsrAbsoluteX a => Sys2Proof.Machine.execLsrAbsoluteX a s
  | .rolAccumulator => Sys2Proof.Machine.execRolAccumulator s
  | .rolZeroPage z => Sys2Proof.Machine.execRolZeroPage z s
  | .rolZeroPageX z => Sys2Proof.Machine.execRolZeroPageX z s
  | .rolAbsolute a => Sys2Proof.Machine.execRolAbsolute a s
  | .rolAbsoluteX a => Sys2Proof.Machine.execRolAbsoluteX a s
  | .rorAccumulator => Sys2Proof.Machine.execRorAccumulator s
  | .rorZeroPage z => Sys2Proof.Machine.execRorZeroPage z s
  | .rorZeroPageX z => Sys2Proof.Machine.execRorZeroPageX z s
  | .rorAbsolute a => Sys2Proof.Machine.execRorAbsolute a s
  | .rorAbsoluteX a => Sys2Proof.Machine.execRorAbsoluteX a s
  -- 45 control transfer
  | .bpl o => Sys2Proof.Machine.execBpl o s
  | .bmi o => Sys2Proof.Machine.execBmi o s
  | .bvc o => Sys2Proof.Machine.execBvc o s
  | .bvs o => Sys2Proof.Machine.execBvs o s
  | .bcc o => Sys2Proof.Machine.execBcc o s
  | .bcs o => Sys2Proof.Machine.execBcs o s
  | .bne o => Sys2Proof.Machine.execBne o s
  | .beq o => Sys2Proof.Machine.execBeq o s
  | .jmpAbsolute a => Sys2Proof.Machine.execJmpAbsolute a s
  | .jmpIndirect p => Sys2Proof.Machine.execJmpIndirect p s
  | .jsr a => Sys2Proof.Machine.execJsr a s
  | .rts => Sys2Proof.Machine.execRts s
  -- 46 stack and transfer
  | .pha => Sys2Proof.Machine.execPha s
  | .php => Sys2Proof.Machine.execPhp s
  | .pla => Sys2Proof.Machine.execPla s
  | .plp => Sys2Proof.Machine.execPlp s
  | .tax => Sys2Proof.Machine.execTax s
  | .tay => Sys2Proof.Machine.execTay s
  | .txa => Sys2Proof.Machine.execTxa s
  | .tya => Sys2Proof.Machine.execTya s
  | .tsx => Sys2Proof.Machine.execTsx s
  | .txs => Sys2Proof.Machine.execTxs s
  -- 47 flags and system
  | .clc => Sys2Proof.Machine.execClc s
  | .sec => Sys2Proof.Machine.execSec s
  | .cli => Sys2Proof.Machine.execCli s
  | .sei => Sys2Proof.Machine.execSei s
  | .cld => Sys2Proof.Machine.execCld s
  | .sed => Sys2Proof.Machine.execSed s
  | .clv => Sys2Proof.Machine.execClv s
  | .nop => Sys2Proof.Machine.execNop s
  | .brk => Sys2Proof.Machine.execBrk s
  | .rti => Sys2Proof.Machine.execRti s

end Sys2Proof.Machine
end

