-- ==== Sys2Proof/Machine/Interrupt.lean ====
section
/-! DEFINITION. The interrupt controller (60_exceptions.md): which interrupt a step boundary accepts, and its entry. -/

namespace Sys2Proof.Machine

/-- The interrupts a step can accept (60_exceptions.md R313); reset acts at once and is a host operation. -/
inductive InterruptKind where
  | nmi | irq
deriving DecidableEq, Repr

/-- `InterruptAccepted()`: NMI first, then IRQ when P.I is clear (60_exceptions.md R317). -/
def acceptedInterrupt (s : State) : Option InterruptKind :=
  if s.nmiPending then some .nmi
  else if s.irqLine && !s.p.i then some .irq
  else none

/-- `InterruptEntry()` (60_exceptions.md R318): the return address is PC, bit 4 of the pushed status is 0, an NMI clears
its latch, and the entry costs 7 cycles (R319). -/
def interruptEntry (kind : InterruptKind) (s : State) : State :=
  match kind with
  | .nmi => charge 7 (takeException s.pc false nmiVector { s with nmiPending := false })
  | .irq => charge 7 (takeException s.pc false irqVector s)

end Sys2Proof.Machine
end

