-- ==== Sys2Proof/Machine/Execute.lean ====
section
/-! DEFINITION. One step of the loop in Fetching (48_execute_loop.md R280 to R286): fetch, dispatch, operand bytes,
execute. And placing an instruction where a step fetches it. -/

namespace Sys2Proof.Machine

/-- Fetches the operand bytes a row's format has and executes the instruction (40_addressing_modes.md R131;
48_execute_loop.md R284, R285). PC is then the address after the instruction. -/
def executeShape (shape : Shape) (s : State) : Answer :=
  match shape with
  | .f1 i => exec i s
  | .f2 make =>
    let (b, s1) := fetchByte s
    exec (make b) s1
  | .f3 make =>
    let (l, s1) := fetchByte s
    let (h, s2) := fetchByte s1
    exec (make (joinBytes h l)) s2

/-- `ExecuteOne()` (48_execute_loop.md R282 to R286): an Invalid opcode raises DecodeFault, with PC past the opcode, no
operand byte read and no cycle counted (R283). -/
def executeOne (s : State) : Answer :=
  let (op, s1) := fetchByte s
  match opcodeRow op with
  | none => .next (raiseDecodeFault op s.pc s1)
  | some r => executeShape r.shape s1

/-- A step in Fetching: an accepted interrupt takes the whole step, otherwise one instruction runs (48_execute_loop.md
R280; 60_exceptions.md R316). -/
def stepFetching (s : State) : Answer :=
  match acceptedInterrupt s with
  | some kind => .next (interruptEntry kind (beginStep s))
  | none => executeOne (beginStep s)

/-- Writes a byte sequence into memory from an address on, wrapping past 0xFFFF (48_execute_loop.md R299, D23), with no
bus transaction recorded. -/
def storeBytes : List Byte → Word → Memory → Memory
  | [], _, m => m
  | b :: bs, a, m => storeBytes bs (a + 1) (m.write a.toNat b)

/-- The state with an instruction's bytes at PC, in Fetching with no fault, no NMI pending and no IRQ that would be
accepted, so that the very next step fetches and runs it (log 10). -/
def placeInstruction (bytes : List Byte) (s : State) : State :=
  { s with
    mem := storeBytes bytes s.pc s.mem
    loopState := .fetching
    fault := none
    nmiPending := false
    irqLine := s.irqLine && s.p.i }

end Sys2Proof.Machine
end

