-- ==== Sys2Proof/Machine/Step.lean ====
section
/-! DEFINITION. The step (48_execute_loop.md R280), and the state whose next step runs a given machine word. -/

namespace Sys2Proof.Machine

/-- `step()` (48_execute_loop.md R280): in Halted it reports the recorded fault and changes nothing (R290); in Fetching
it performs one interrupt entry or one instruction. -/
def step (s : State) : Host.Outcome State Fault Refusal :=
  match s.loopState with
  | .halted => .fault (.halted s.fault)
  | .fetching => stepFetching s

/-- `s` with the instruction of `nbits` bits in `w`, numbered as opcode_table.json numbers them, placed where the next
step fetches it (log 10). -/
def State.withFetchWord (s : State) (nbits w : Nat) : State := placeInstruction (tableBytes nbits w) s

end Sys2Proof.Machine
end

