-- ==== Sys2Proof/Machine/HostOps.lean ====
section
/-! DEFINITION. The host's operations (48_execute_loop.md R295 to R302; 70_reset_and_hazards.md R340 to R344). Each acts
between two steps (R302), so each is a function on State. -/

namespace Sys2Proof.Machine

/-- `reset()` (70_reset_and_hazards.md R340): PC from the reset vector, SP from RESET_SP, P.I set, P.B cleared, Fetching,
no fault, no NMI pending, no cycles counted. It writes no memory (R341) and is not a step (R342). -/
def hostReset (s : State) : State :=
  let (target, s1) := memRead16 resetVector (beginStep s)
  { s1 with
    pc := target
    sp := s.params.resetSp
    p := (s.p.put .interrupt true).put .break_ false
    loopState := .fetching
    fault := none
    nmiPending := false
    cycleTotal := 0 }

/-- Construction (10_state.md R46): zero memory, both interrupt inputs 0, the unspecified registers from the draw, then
`reset()`. -/
def construct (params : Params) (draw : PowerOnRegs) : State :=
  hostReset
    { a := draw.a, x := draw.x, y := draw.y, sp := 0, pc := 0
      p := { c := draw.c, z := draw.z, i := true, d := draw.d, b := false, v := draw.v, n := draw.n }
      loopState := .fetching, fault := none, nmiPending := false, irqLine := false, cycleTotal := 0
      mem := [], bus := [], params := params }

/-- `load(origin, bytes)` (48_execute_loop.md R299). -/
def load (origin : Word) (bytes : List Byte) (s : State) : State := { s with mem := storeBytes bytes origin s.mem }

/-- `peek(addr)` (48_execute_loop.md R298). -/
def peek (addr : Word) (s : State) : Byte := s.byteAt addr

/-- `poke(addr, v)` (48_execute_loop.md R300). -/
def poke (addr : Word) (v : Byte) (s : State) : State := { s with mem := s.mem.write addr.toNat v }

/-- `set_irq(level)` (60_exceptions.md R314). -/
def setIrq (level : Bool) (s : State) : State := { s with irqLine := level }

/-- `signal_nmi()` (60_exceptions.md R315). -/
def signalNmi (s : State) : State := { s with nmiPending := true }

/-- What `inspect()` returns (48_execute_loop.md R301). -/
structure Inspection where
  a : Byte
  x : Byte
  y : Byte
  pc : Word
  sp : Byte
  p : Byte
  loopState : LoopState
  fault : Option DecodeFault
  nmiPending : Bool
  irqLine : Bool
  cycleTotal : CycleCount
deriving DecidableEq, Repr

/-- `inspect()` (48_execute_loop.md R301). -/
def inspect (s : State) : Inspection where
  a := s.a
  x := s.x
  y := s.y
  pc := s.pc
  sp := s.sp
  p := s.p.byte
  loopState := s.loopState
  fault := s.fault
  nmiPending := s.nmiPending
  irqLine := s.irqLine
  cycleTotal := s.cycleTotal

/-- What `step()` returns to the host (48_execute_loop.md R296): `Ok(cycles)` or `Err(fault)`. -/
inductive StepResult where
  | ok (cycles : Nat)
  | err (fault : Option DecodeFault)
deriving DecidableEq, Repr

/-- `step()` as the host calls it (48_execute_loop.md R280, R296): the state after it and its result. The cycles of an
`Ok` step are what it added to `cycle_total` (R289; log 12). -/
def hostStep (s : State) : State × StepResult :=
  match step s with
  | .next t =>
    match t.loopState with
    | .fetching => (t, .ok (t.cycleTotal - s.cycleTotal).toNat)
    | .halted => (t, .err t.fault)
  | .fault (.halted f) => (s, .err f)
  | .refused _ => (s, .err none)

/-- What `run` returns, with the state after it (48_execute_loop.md R297): the summed cycles of its `Ok` steps and, if
it stopped at an `Err`, that fault. -/
structure RunResult where
  state : State
  cycles : Nat
  stopped : Option (Option DecodeFault)
deriving DecidableEq, Repr

/-- `run(n)`: up to `n` steps, stopping early at the first `Err` (48_execute_loop.md R297). -/
def run : Nat → State → RunResult
  | 0, s => ⟨s, 0, none⟩
  | n + 1, s =>
    match hostStep s with
    | (t, .ok cycles) =>
      let rest := run n t
      { rest with cycles := cycles + rest.cycles }
    | (t, .err f) => ⟨t, 0, some f⟩

/-- `run(until_halt)` ends with a result when some number of steps reaches the first `Err` (48_execute_loop.md R297); it
may never end (93_implementation_defined.md K1.12; log 11). -/
def RunsUntilHalt (s : State) (r : RunResult) : Prop := ∃ n, run n s = r ∧ r.stopped.isSome = true

end Sys2Proof.Machine
end

