-- ==== Sys2Proof/Safety.lean ====
section
/-! DEFINITION. The terms the statements use: the invariant of the block, the memory a bus log describes, and states that
differ in one part only. -/

namespace Sys2Proof.Machine

/-- What holds of every state a run from construction reaches: the memory is in canonical form, P.B is 0 (10_state.md
R39), and a fault is recorded exactly in Halted (R44). -/
def StateInv (s : State) : Prop :=
  s.mem.wf = true ∧ s.p.b = false ∧ (s.fault.isSome = true ↔ s.loopState = .halted)

/-- The memory after the writes of a bus log, in order (20_memory.md R72, R76). -/
def replay (m : Memory) : List BusAccess → Memory
  | [] => m
  | .read _ :: l => replay m l
  | .write addr v :: l => replay (m.write addr.toNat v) l

/-- A state with another cycle total. -/
def withCycleTotal (k : CycleCount) (s : State) : State := { s with cycleTotal := k }

/-- A state with another stored Break bit. -/
def withBreak (b : Bool) (s : State) : State := { s with p := { s.p with b := b } }

end Sys2Proof.Machine
end

