-- ==== Sys2Proof/Certificates/Slice0/Obligations.lean ====
section
/-! DEFINITION. The statements for the provers, and the terms they are written in. A statement of an instruction's effect
gives the opcode, the length, the cycles and the whole next state, so it says what the instruction changes, that it changes nothing
else, and that it completes in every state. The flags, carries, stack addresses and branch targets are written as
arithmetic on natural numbers and integers, from the spec's rules and not from the model's bit operations. -/

open Sys2Proof Sys2Proof.Machine

namespace Sys2Proof.Claims

/-- `op` is the first of the `bytes` bytes of the encoding of `i`, and executing `i` in `s` answers the next state `t`. -/
def Runs (op : Byte) (bytes : Nat) (i : Instr) (s t : State) : Prop :=
  (encode i).head? = some op ∧ (encode i).length = bytes ∧ exec i s = .next t

/-- `s` after the bus transactions `l` and `cycles` cycles, and nothing else. -/
def after (s : State) (l : List BusAccess) (cycles : Nat) : State :=
  { s with bus := s.bus ++ l, cycleTotal := s.cycleTotal + BitVec.ofNat 64 cycles }

/-- The Zero/Negative rule (10_state.md R41): Z iff the byte is 0, N iff its bit 7 is 1. -/
def nz (v : Byte) (p : Status) : Status := { p with z := decide (v.toNat = 0), n := decide (128 ≤ v.toNat) }

/-- `+1 if crossed` (48_execute_loop.md R288). -/
def crossing (o : Operand) (s : State) : Nat := if pageCrossed o s = true then 1 else 0

/-- `+1 if crossed only when PAGE_PENALTY_ON_STORE_RMW` (48_execute_loop.md R288). -/
def storeCrossing (o : Operand) (s : State) : Nat :=
  if pageCrossed o s = true ∧ s.params.pagePenaltyOnStoreRmw = true then 1 else 0

/-- `s` after the operand value of `o` was read. -/
def afterRead (o : Operand) (cycles : Nat) (s : State) : State := after s (operandAccesses o s) cycles

/-- `s` after `v` was stored at the effective address of `o`. -/
def afterStore (o : Operand) (v : Byte) (cycles : Nat) (s : State) : State :=
  { after s (pointerReads o s ++ [.write (effectiveAddress o s) v]) cycles with
    mem := s.mem.write (effectiveAddress o s).toNat v }

/-- `s` after the byte at the effective address of `o` was read and replaced by `v`. -/
def afterModify (o : Operand) (v : Byte) (cycles : Nat) (s : State) : State :=
  { after s (pointerReads o s ++ [.read (effectiveAddress o s), .write (effectiveAddress o s) v]) cycles with
    mem := s.mem.write (effectiveAddress o s).toNat v }

/-- The byte at the effective address of `o`. -/
def atEA (o : Operand) (s : State) : Byte := s.byteAt (effectiveAddress o s)

/-! ### Loads, logical instructions and BIT -/

/-- A loaded register's instruction (41_load_store.md R160 to R162; 43_logical.md R200 to R202): A becomes `v`. -/
def setsA (o : Operand) (v : Byte) (cycles : Nat) (s : State) : State :=
  { afterRead o cycles s with a := v, p := nz v s.p }

/-- As `setsA`, for X. -/
def setsX (o : Operand) (v : Byte) (cycles : Nat) (s : State) : State :=
  { afterRead o cycles s with x := v, p := nz v s.p }

/-- As `setsA`, for Y. -/
def setsY (o : Operand) (v : Byte) (cycles : Nat) (s : State) : State :=
  { afterRead o cycles s with y := v, p := nz v s.p }

/-- BIT (43_logical.md R203). -/
def bitTested (o : Operand) (cycles : Nat) (s : State) : State :=
  { afterRead o cycles s with
    p := { s.p with
      z := decide ((s.a &&& operandValue o s).toNat = 0)
      n := decide (128 ≤ (operandValue o s).toNat)
      v := decide (64 ≤ (operandValue o s).toNat % 128) } }

/-! ### Arithmetic -/

/-- The flags of a binary sum whose exact value is `r` and whose exact signed value is `signed` (42_arithmetic.md R170):
the result byte is `r` modulo 256, and V says that the signed value does not fit a signed byte. -/
def sumFlags (p : Status) (r signed : Int) (carry : Bool) : Status :=
  { p with
    c := carry
    z := decide (r % 256 = 0)
    n := decide (128 ≤ r % 256)
    v := decide (signed < -128 ∨ 127 < signed) }

/-- ADC in natural numbers and integers (42_arithmetic.md R170 to R172). -/
def adcSpec (a m : Byte) (p : Status) : Byte × Status :=
  if p.d = false then
    let s := a.toNat + m.toNat + p.c.toNat
    (BitVec.ofNat 8 s, sumFlags p s (a.toInt + m.toInt + p.c.toNat) (decide (255 < s)))
  else
    let low := a.toNat % 16 + m.toNat % 16 + p.c.toNat
    let al := if 10 ≤ low then (low + 6) % 16 + 16 else low
    let t := a.toNat / 16 * 16 + m.toNat / 16 * 16 + al
    let full := if 160 ≤ t then t + 96 else t
    (BitVec.ofNat 8 full,
     { p with
       n := decide (t / 128 % 2 = 1)
       v := decide (a.toNat / 128 = m.toNat / 128 ∧ t / 128 % 2 ≠ a.toNat / 128)
       z := decide ((a.toNat + m.toNat + p.c.toNat) % 256 = 0)
       c := decide (256 ≤ full) })

/-- SBC in integers (42_arithmetic.md R173, R174): the flags from the binary difference in both modes. -/
def sbcSpec (a m : Byte) (p : Status) : Byte × Status :=
  let r : Int := a.toNat - m.toNat - (1 - p.c.toNat)
  let flags := sumFlags p r (a.toInt - m.toInt - (1 - p.c.toNat)) (decide (0 ≤ r))
  if p.d = false then (BitVec.ofInt 8 r, flags)
  else
    let low : Int := (a.toNat % 16 : Nat) - (m.toNat % 16 : Nat) + p.c.toNat - 1
    let al := if low < 0 then (low - 6) % 16 - 16 else low
    let t : Int := (a.toNat / 16 * 16 : Nat) - (m.toNat / 16 * 16 : Nat) + al
    (BitVec.ofInt 8 (if t < 0 then t - 96 else t), flags)

/-- The byte of two decimal digits (42_arithmetic.md R172, "valid BCD operands"). -/
def bcd (n : Nat) : Byte := BitVec.ofNat 8 (n / 10 * 16 + n % 10)

/-- `s` after an accumulator operation with result and status `r`. -/
def accumulates (o : Operand) (r : Byte × Status) (cycles : Nat) (s : State) : State :=
  { afterRead o cycles s with a := r.1, p := r.2 }

/-- `Compare(R, M)` (42_arithmetic.md R175): C iff R >= M, Z iff R = M, N from bit 7 of the difference modulo 256. -/
def compared (o : Operand) (r : Byte) (cycles : Nat) (s : State) : State :=
  { afterRead o cycles s with
    p := { s.p with
      c := decide ((operandValue o s).toNat ≤ r.toNat)
      z := decide (r.toNat = (operandValue o s).toNat)
      n := decide (128 ≤ (r.toNat + 256 - (operandValue o s).toNat) % 256) } }

/-- The byte one above, modulo 256 (42_arithmetic.md R185). -/
def succByte (v : Byte) : Byte := BitVec.ofNat 8 (v.toNat + 1)

/-- The byte one below, modulo 256 (42_arithmetic.md R185). -/
def predByte (v : Byte) : Byte := BitVec.ofNat 8 (v.toNat + 255)

/-! ### Shifts and rotates -/

/-- The result and the carry out of ASL (44_shift_rotate.md R211). -/
def aslSpec (v : Byte) : Byte × Bool := (BitVec.ofNat 8 (2 * v.toNat), decide (128 ≤ v.toNat))

/-- The result and the carry out of LSR (44_shift_rotate.md R212). -/
def lsrSpec (v : Byte) : Byte × Bool := (BitVec.ofNat 8 (v.toNat / 2), decide (v.toNat % 2 = 1))

/-- The result and the carry out of ROL with carry in `c` (44_shift_rotate.md R213). -/
def rolSpec (c : Bool) (v : Byte) : Byte × Bool := (BitVec.ofNat 8 (2 * v.toNat + c.toNat), decide (128 ≤ v.toNat))

/-- The result and the carry out of ROR with carry in `c` (44_shift_rotate.md R214). -/
def rorSpec (c : Bool) (v : Byte) : Byte × Bool :=
  (BitVec.ofNat 8 (v.toNat / 2 + 128 * c.toNat), decide (v.toNat % 2 = 1))

/-- The accumulator form (44_shift_rotate.md R210). -/
def shiftsA (r : Byte × Bool) (s : State) : State :=
  { after s [] 2 with a := r.1, p := nz r.1 { s.p with c := r.2 } }

/-- The memory form (44_shift_rotate.md R210). -/
def shiftsM (o : Operand) (r : Byte × Bool) (cycles : Nat) (s : State) : State :=
  { afterModify o r.1 cycles s with p := nz r.1 { s.p with c := r.2 } }

/-! ### Control transfer and the stack -/

/-- The branch target: `word(PC + sext_8(o))`, PC being the address after the branch (40_addressing_modes.md R142). -/
def branchTarget (o : Byte) (s : State) : Word := BitVec.ofInt 16 (s.pc.toNat + o.toInt)

/-- `Branch(cond)` (45_control_transfer.md R220): 2 cycles, 3 when taken to the page of the next instruction, 4 when
taken to another page. -/
def branched (o : Byte) (cond : Bool) (s : State) : State :=
  if cond = false then after s [] 2
  else if (branchTarget o s).toNat / 256 = s.pc.toNat / 256 then { after s [] 3 with pc := branchTarget o s }
  else { after s [] 4 with pc := branchTarget o s }

/-- The address a JMP-indirect pointer's high byte is read from: `ptr & 0xFF00` when its low byte is 0xFF, `ptr + 1`
otherwise (40_addressing_modes.md R139). -/
def pointerHigh (p : Word) : Word :=
  if p.toNat % 256 = 255 then BitVec.ofNat 16 (p.toNat - 255) else BitVec.ofNat 16 (p.toNat + 1)

/-- The 16-bit value with the given high and low bytes. -/
def wordOf (h l : Byte) : Word := BitVec.ofNat 16 (256 * h.toNat + l.toNat)

/-- The high byte of a 16-bit value. -/
def hiByte (w : Word) : Byte := BitVec.ofNat 8 (w.toNat / 256)

/-- The low byte of a 16-bit value. -/
def loByte (w : Word) : Byte := BitVec.ofNat 8 w.toNat

/-- The address of the stack byte for SP `sp` (20_memory.md R77). -/
def stackByte (sp : Byte) : Word := BitVec.ofNat 16 (256 + sp.toNat)

/-- Pushes a list of bytes, the first one first (20_memory.md R78). -/
def pushAll : List Byte → State → State
  | [], s => s
  | v :: l, s =>
    pushAll l
      { s with
        mem := s.mem.write (256 + s.sp.toNat) v
        sp := BitVec.ofNat 8 (s.sp.toNat + 255)
        bus := s.bus ++ [.write (stackByte s.sp) v] }

/-- The stack byte the `k`-th pull from `s` gives (20_memory.md R79). -/
def pulled (k : Nat) (s : State) : Byte := s.byteAt (stackByte (s.sp + BitVec.ofNat 8 k))

/-- `s` after `n` pulls and `cycles` cycles (20_memory.md R79). -/
def afterPulls (n cycles : Nat) (s : State) : State :=
  { after s ((List.range n).map fun k => .read (stackByte (s.sp + BitVec.ofNat 8 (k + 1)))) cycles with
    sp := s.sp + BitVec.ofNat 8 n }

/-- `PushedP(b)` (10_state.md R47). -/
def statusByte (p : Status) (b : Bool) : Byte :=
  BitVec.ofNat 8 (p.n.toNat * 128 + p.v.toNat * 64 + 32 + b.toNat * 16 + p.d.toNat * 8 + p.i.toNat * 4 + p.z.toNat * 2
    + p.c.toNat)

/-- `LoadP(v)` (10_state.md R48). -/
def statusOf (v : Byte) : Status where
  n := decide (v.toNat / 128 % 2 = 1)
  v := decide (v.toNat / 64 % 2 = 1)
  d := decide (v.toNat / 8 % 2 = 1)
  i := decide (v.toNat / 4 % 2 = 1)
  z := decide (v.toNat / 2 % 2 = 1)
  c := decide (v.toNat % 2 = 1)
  b := false

/-- The entry of BRK, IRQ and NMI (47_flags_system.md R268; 60_exceptions.md R318): `ret` and `PushedP(b)` pushed, I set,
PC from the vector, 7 cycles. The vector bytes are those of the state before the pushes, which do not reach them. -/
def entered (ret : Word) (b : Bool) (vector : Word) (s : State) : State :=
  let t := pushAll [hiByte ret, loByte ret, statusByte s.p b] s
  { after t [.read vector, .read (vector + 1)] 7 with
    p := { s.p with i := true }
    pc := wordOf (s.byteAt (vector + 1)) (s.byteAt vector) }

/-! ### The step -/

/-- In Fetching, with no interrupt to accept (60_exceptions.md R317). -/
def Running (s : State) : Prop :=
  s.loopState = .fetching ∧ s.nmiPending = false ∧ (s.irqLine = false ∨ s.p.i = true)

/-- The bytes from PC on, as many as the longest instruction has. -/
def bytesAtPc (s : State) : List Byte := [s.byteAt s.pc, s.byteAt (s.pc + 1), s.byteAt (s.pc + 2)]

/-- The state in which the step executes an instruction of `n` bytes: PC past it, and its bytes read in order
(48_execute_loop.md R282; 40_addressing_modes.md R131). -/
def fetched (n : Nat) (s : State) : State :=
  { s with
    pc := s.pc + BitVec.ofNat 16 n
    bus := (List.range n).map fun k => .read (s.pc + BitVec.ofNat 16 k) }

/-- The Invalid opcode bytes of 30_encoding.md R105. -/
def invalidOpcodes : List Byte :=
  [0x02, 0x03, 0x04, 0x07, 0x0B, 0x0C, 0x0F, 0x12, 0x13, 0x14, 0x17, 0x1A, 0x1B, 0x1C, 0x1F,
   0x22, 0x23, 0x27, 0x2B, 0x2F, 0x32, 0x33, 0x34, 0x37, 0x3A, 0x3B, 0x3C, 0x3F, 0x42, 0x43,
   0x44, 0x47, 0x4B, 0x4F, 0x52, 0x53, 0x54, 0x57, 0x5A, 0x5B, 0x5C, 0x5F, 0x62, 0x63, 0x64,
   0x67, 0x6B, 0x6F, 0x72, 0x73, 0x74, 0x77, 0x7A, 0x7B, 0x7C, 0x7F, 0x80, 0x82, 0x83, 0x87,
   0x89, 0x8B, 0x8F, 0x92, 0x93, 0x97, 0x9B, 0x9C, 0x9E, 0x9F, 0xA3, 0xA7, 0xAB, 0xAF, 0xB2,
   0xB3, 0xB7, 0xBB, 0xBF, 0xC2, 0xC3, 0xC7, 0xCB, 0xCF, 0xD2, 0xD3, 0xD4, 0xD7, 0xDA, 0xDB,
   0xDC, 0xDF, 0xE2, 0xE3, 0xE7, 0xEB, 0xEF, 0xF2, 0xF3, 0xF4, 0xF7, 0xFA, 0xFB, 0xFC, 0xFF]

/-- `v` is the opcode the next step of `t` fetches (20_memory.md R89). Where that step accepts no interrupt, an Invalid
`v` halts it with the DecodeFault of `v` at PC, and an instruction it decodes to has the opcode `v` and is run. -/
def FetchesNext (v : Byte) (t : State) : Prop :=
  (bytesAtPc t).head? = some v ∧
  (Running t → v ∈ invalidOpcodes → ∃ u, step t = .next u ∧ u.loopState = .halted ∧ u.fault = some ⟨v, t.pc⟩) ∧
  (Running t → ∀ i rest, decode (bytesAtPc t) = .ok (i, rest) →
    (encode i).head? = some v ∧ step t = exec i (fetched i.length t))

/-- The instructions that replace PC (48_execute_loop.md R291). -/
def transfers : List Mnemonic :=
  [.bpl, .bmi, .bvc, .bvs, .bcc, .bcs, .bne, .beq, .jmp, .jsr, .rts, .brk, .rti]

/-- The instructions that write a flag (10_state.md R42). -/
def flagWriters : Flag → List Mnemonic
  | .carry => [.adc, .sbc, .cmp, .cpx, .cpy, .asl, .lsr, .rol, .ror, .clc, .sec, .plp, .rti]
  | .zero =>
    [.lda, .ldx, .ldy, .adc, .sbc, .and, .ora, .eor, .cmp, .cpx, .cpy, .inc, .dec, .inx, .iny, .dex, .dey, .asl, .lsr,
      .rol, .ror, .tax, .tay, .txa, .tya, .tsx, .pla, .bit, .plp, .rti]
  | .interrupt => [.sei, .cli, .plp, .rti, .brk]
  | .decimal => [.sed, .cld, .plp, .rti]
  | .break_ => [.plp, .rti]
  | .overflow => [.adc, .sbc, .bit, .clv, .plp, .rti]
  | .negative =>
    [.lda, .ldx, .ldy, .adc, .sbc, .and, .ora, .eor, .cmp, .cpx, .cpy, .inc, .dec, .inx, .iny, .dex, .dey, .asl, .lsr,
      .rol, .ror, .tax, .tay, .txa, .tya, .tsx, .pla, .bit, .plp, .rti]

/-- The instructions that store at their effective address, in every form but the accumulator one (20_memory.md R76). -/
def storers : List Mnemonic := [.sta, .stx, .sty, .inc, .dec, .asl, .lsr, .rol, .ror]

/-- The instructions that push (20_memory.md R78). -/
def pushers : List Mnemonic := [.pha, .php, .jsr, .brk]

/-- The condition of a branch (45_control_transfer.md R221 to R228). -/
def branchCondition (m : Mnemonic) (p : Status) : Bool :=
  match m with
  | .bpl => !p.n
  | .bmi => p.n
  | .bvc => !p.v
  | .bvs => p.v
  | .bcc => !p.c
  | .bcs => p.c
  | .bne => !p.z
  | .beq => p.z
  | _ => false

/-- `cycles_extra` (48_execute_loop.md R287): 1 for a taken branch, 2 when its target is on another page than the next
instruction, else 0. -/
def cyclesExtra (i : Instr) (s : State) : Nat :=
  match i.operand with
  | some (.relative o) =>
    if branchCondition i.mnemonic s.p = false then 0
    else if (branchTarget o s).toNat / 256 = s.pc.toNat / 256 then 1 else 2
  | _ => 0

/-- `PagePenalty(op, crossed)` of an instruction (48_execute_loop.md R288). -/
def pageCycles (i : Instr) (s : State) : Nat :=
  match i.operand with
  | some o =>
    match i.penalty with
    | .never => 0
    | .read => crossing o s
    | .storeRmw => storeCrossing o s
  | none => 0

end Sys2Proof.Claims

open Sys2Proof.Claims

/-! ### What each instruction does -/

/-- LDA, LDX and LDY (41_load_store.md R160, R161, R162): every row of their encoding tables. That exec of an
immediate form makes no bus read, its byte being fetched by the step, is the model's, log 5 (DEDUCED). -/
def Obligations.LoadInstructionsComplete : Prop :=
  ∀ (s : State) (v z : Byte) (a : Word),
    Runs 0xA9 2 (.ldaImmediate v) s (setsA (.immediate v) (operandValue (.immediate v) s) 2 s) ∧
    Runs 0xA5 2 (.ldaZeroPage z) s (setsA (.zeroPage z) (operandValue (.zeroPage z) s) 3 s) ∧
    Runs 0xB5 2 (.ldaZeroPageX z) s (setsA (.zeroPageX z) (operandValue (.zeroPageX z) s) 4 s) ∧
    Runs 0xAD 3 (.ldaAbsolute a) s (setsA (.absolute a) (operandValue (.absolute a) s) 4 s) ∧
    Runs 0xBD 3 (.ldaAbsoluteX a) s (setsA (.absoluteX a) (operandValue (.absoluteX a) s) (4 + crossing (.absoluteX a) s) s) ∧
    Runs 0xB9 3 (.ldaAbsoluteY a) s (setsA (.absoluteY a) (operandValue (.absoluteY a) s) (4 + crossing (.absoluteY a) s) s) ∧
    Runs 0xA1 2 (.ldaIndexedIndirectX z) s (setsA (.indexedIndirectX z) (operandValue (.indexedIndirectX z) s) 6 s) ∧
    Runs 0xB1 2 (.ldaIndirectIndexedY z) s (setsA (.indirectIndexedY z) (operandValue (.indirectIndexedY z) s) (5 + crossing (.indirectIndexedY z) s) s) ∧
    Runs 0xA2 2 (.ldxImmediate v) s (setsX (.immediate v) (operandValue (.immediate v) s) 2 s) ∧
    Runs 0xA6 2 (.ldxZeroPage z) s (setsX (.zeroPage z) (operandValue (.zeroPage z) s) 3 s) ∧
    Runs 0xB6 2 (.ldxZeroPageY z) s (setsX (.zeroPageY z) (operandValue (.zeroPageY z) s) 4 s) ∧
    Runs 0xAE 3 (.ldxAbsolute a) s (setsX (.absolute a) (operandValue (.absolute a) s) 4 s) ∧
    Runs 0xBE 3 (.ldxAbsoluteY a) s (setsX (.absoluteY a) (operandValue (.absoluteY a) s) (4 + crossing (.absoluteY a) s) s) ∧
    Runs 0xA0 2 (.ldyImmediate v) s (setsY (.immediate v) (operandValue (.immediate v) s) 2 s) ∧
    Runs 0xA4 2 (.ldyZeroPage z) s (setsY (.zeroPage z) (operandValue (.zeroPage z) s) 3 s) ∧
    Runs 0xB4 2 (.ldyZeroPageX z) s (setsY (.zeroPageX z) (operandValue (.zeroPageX z) s) 4 s) ∧
    Runs 0xAC 3 (.ldyAbsolute a) s (setsY (.absolute a) (operandValue (.absolute a) s) 4 s) ∧
    Runs 0xBC 3 (.ldyAbsoluteX a) s (setsY (.absoluteX a) (operandValue (.absoluteX a) s) (4 + crossing (.absoluteX a) s) s)

/-- STA, STX and STY (41_load_store.md R163, R164, R165): every row of their encoding tables. -/
def Obligations.StoreInstructionsComplete : Prop :=
  ∀ (s : State) (z : Byte) (a : Word),
    Runs 0x85 2 (.staZeroPage z) s (afterStore (.zeroPage z) s.a 3 s) ∧
    Runs 0x95 2 (.staZeroPageX z) s (afterStore (.zeroPageX z) s.a 4 s) ∧
    Runs 0x8D 3 (.staAbsolute a) s (afterStore (.absolute a) s.a 4 s) ∧
    Runs 0x9D 3 (.staAbsoluteX a) s (afterStore (.absoluteX a) s.a (5 + storeCrossing (.absoluteX a) s) s) ∧
    Runs 0x99 3 (.staAbsoluteY a) s (afterStore (.absoluteY a) s.a (5 + storeCrossing (.absoluteY a) s) s) ∧
    Runs 0x81 2 (.staIndexedIndirectX z) s (afterStore (.indexedIndirectX z) s.a 6 s) ∧
    Runs 0x91 2 (.staIndirectIndexedY z) s (afterStore (.indirectIndexedY z) s.a (6 + storeCrossing (.indirectIndexedY z) s) s) ∧
    Runs 0x86 2 (.stxZeroPage z) s (afterStore (.zeroPage z) s.x 3 s) ∧
    Runs 0x96 2 (.stxZeroPageY z) s (afterStore (.zeroPageY z) s.x 4 s) ∧
    Runs 0x8E 3 (.stxAbsolute a) s (afterStore (.absolute a) s.x 4 s) ∧
    Runs 0x84 2 (.styZeroPage z) s (afterStore (.zeroPage z) s.y 3 s) ∧
    Runs 0x94 2 (.styZeroPageX z) s (afterStore (.zeroPageX z) s.y 4 s) ∧
    Runs 0x8C 3 (.styAbsolute a) s (afterStore (.absolute a) s.y 4 s)

/-- ADC (42_arithmetic.md R170, R171, R172), for every accumulator, operand, carry and mode. That exec of an immediate
form makes no bus read, its byte being fetched by the step, is the model's, log 5 (DEDUCED). -/
def Obligations.AdcCompletes : Prop :=
  ∀ (s : State) (v z : Byte) (a : Word),
    Runs 0x69 2 (.adcImmediate v) s (accumulates (.immediate v) (adcSpec s.a (operandValue (.immediate v) s) s.p) 2 s) ∧
    Runs 0x65 2 (.adcZeroPage z) s (accumulates (.zeroPage z) (adcSpec s.a (operandValue (.zeroPage z) s) s.p) 3 s) ∧
    Runs 0x75 2 (.adcZeroPageX z) s (accumulates (.zeroPageX z) (adcSpec s.a (operandValue (.zeroPageX z) s) s.p) 4 s) ∧
    Runs 0x6D 3 (.adcAbsolute a) s (accumulates (.absolute a) (adcSpec s.a (operandValue (.absolute a) s) s.p) 4 s) ∧
    Runs 0x7D 3 (.adcAbsoluteX a) s (accumulates (.absoluteX a) (adcSpec s.a (operandValue (.absoluteX a) s) s.p) (4 + crossing (.absoluteX a) s) s) ∧
    Runs 0x79 3 (.adcAbsoluteY a) s (accumulates (.absoluteY a) (adcSpec s.a (operandValue (.absoluteY a) s) s.p) (4 + crossing (.absoluteY a) s) s) ∧
    Runs 0x61 2 (.adcIndexedIndirectX z) s (accumulates (.indexedIndirectX z) (adcSpec s.a (operandValue (.indexedIndirectX z) s) s.p) 6 s) ∧
    Runs 0x71 2 (.adcIndirectIndexedY z) s (accumulates (.indirectIndexedY z) (adcSpec s.a (operandValue (.indirectIndexedY z) s) s.p) (5 + crossing (.indirectIndexedY z) s) s)

/-- SBC (42_arithmetic.md R173, R174), for every accumulator, operand, carry and mode. That exec of an immediate form
makes no bus read, its byte being fetched by the step, is the model's, log 5 (DEDUCED). -/
def Obligations.SbcCompletes : Prop :=
  ∀ (s : State) (v z : Byte) (a : Word),
    Runs 0xE9 2 (.sbcImmediate v) s (accumulates (.immediate v) (sbcSpec s.a (operandValue (.immediate v) s) s.p) 2 s) ∧
    Runs 0xE5 2 (.sbcZeroPage z) s (accumulates (.zeroPage z) (sbcSpec s.a (operandValue (.zeroPage z) s) s.p) 3 s) ∧
    Runs 0xF5 2 (.sbcZeroPageX z) s (accumulates (.zeroPageX z) (sbcSpec s.a (operandValue (.zeroPageX z) s) s.p) 4 s) ∧
    Runs 0xED 3 (.sbcAbsolute a) s (accumulates (.absolute a) (sbcSpec s.a (operandValue (.absolute a) s) s.p) 4 s) ∧
    Runs 0xFD 3 (.sbcAbsoluteX a) s (accumulates (.absoluteX a) (sbcSpec s.a (operandValue (.absoluteX a) s) s.p) (4 + crossing (.absoluteX a) s) s) ∧
    Runs 0xF9 3 (.sbcAbsoluteY a) s (accumulates (.absoluteY a) (sbcSpec s.a (operandValue (.absoluteY a) s) s.p) (4 + crossing (.absoluteY a) s) s) ∧
    Runs 0xE1 2 (.sbcIndexedIndirectX z) s (accumulates (.indexedIndirectX z) (sbcSpec s.a (operandValue (.indexedIndirectX z) s) s.p) 6 s) ∧
    Runs 0xF1 2 (.sbcIndirectIndexedY z) s (accumulates (.indirectIndexedY z) (sbcSpec s.a (operandValue (.indirectIndexedY z) s) s.p) (5 + crossing (.indirectIndexedY z) s) s)

/-- The decimal meaning of ADC on valid BCD operands (42_arithmetic.md R172, "A and C are the decimal sum and decimal
carry"). -/
def Obligations.DecimalAdcAddsBcd : Prop :=
  ∀ (s : State) (m n : Nat), m < 100 → n < 100 → s.p.d = true → s.a = bcd m →
    ∃ t, exec (.adcImmediate (bcd n)) s = .next t ∧ t.a = bcd ((m + n + s.p.c.toNat) % 100) ∧
      t.p.c = decide (100 ≤ m + n + s.p.c.toNat)

/-- The decimal meaning of SBC on valid BCD operands (42_arithmetic.md R174, "the decimal difference modulo 100"). -/
def Obligations.DecimalSbcSubtractsBcd : Prop :=
  ∀ (s : State) (m n : Nat), m < 100 → n < 100 → s.p.d = true → s.a = bcd m →
    ∃ t, exec (.sbcImmediate (bcd n)) s = .next t ∧ t.a = bcd ((m + 99 + s.p.c.toNat - n) % 100) ∧
      t.p.c = decide (n + 1 ≤ m + s.p.c.toNat)

/-- CMP, CPX and CPY (42_arithmetic.md R175 to R178): every row of their encoding tables. That exec of an immediate
form makes no bus read, its byte being fetched by the step, is the model's, log 5 (DEDUCED). -/
def Obligations.CompareInstructionsComplete : Prop :=
  ∀ (s : State) (v z : Byte) (a : Word),
    Runs 0xC9 2 (.cmpImmediate v) s (compared (.immediate v) s.a 2 s) ∧
    Runs 0xC5 2 (.cmpZeroPage z) s (compared (.zeroPage z) s.a 3 s) ∧
    Runs 0xD5 2 (.cmpZeroPageX z) s (compared (.zeroPageX z) s.a 4 s) ∧
    Runs 0xCD 3 (.cmpAbsolute a) s (compared (.absolute a) s.a 4 s) ∧
    Runs 0xDD 3 (.cmpAbsoluteX a) s (compared (.absoluteX a) s.a (4 + crossing (.absoluteX a) s) s) ∧
    Runs 0xD9 3 (.cmpAbsoluteY a) s (compared (.absoluteY a) s.a (4 + crossing (.absoluteY a) s) s) ∧
    Runs 0xC1 2 (.cmpIndexedIndirectX z) s (compared (.indexedIndirectX z) s.a 6 s) ∧
    Runs 0xD1 2 (.cmpIndirectIndexedY z) s (compared (.indirectIndexedY z) s.a (5 + crossing (.indirectIndexedY z) s) s) ∧
    Runs 0xE0 2 (.cpxImmediate v) s (compared (.immediate v) s.x 2 s) ∧
    Runs 0xE4 2 (.cpxZeroPage z) s (compared (.zeroPage z) s.x 3 s) ∧
    Runs 0xEC 3 (.cpxAbsolute a) s (compared (.absolute a) s.x 4 s) ∧
    Runs 0xC0 2 (.cpyImmediate v) s (compared (.immediate v) s.y 2 s) ∧
    Runs 0xC4 2 (.cpyZeroPage z) s (compared (.zeroPage z) s.y 3 s) ∧
    Runs 0xCC 3 (.cpyAbsolute a) s (compared (.absolute a) s.y 4 s)

/-- INC and DEC (42_arithmetic.md R179, R180): every row of their encoding tables. -/
def Obligations.MemoryIncrementsComplete : Prop :=
  ∀ (s : State) (z : Byte) (a : Word),
    Runs 0xE6 2 (.incZeroPage z) s
      { afterModify (.zeroPage z) (succByte (atEA (.zeroPage z) s)) 5 s with p := nz (succByte (atEA (.zeroPage z) s)) s.p } ∧
    Runs 0xF6 2 (.incZeroPageX z) s
      { afterModify (.zeroPageX z) (succByte (atEA (.zeroPageX z) s)) 6 s with p := nz (succByte (atEA (.zeroPageX z) s)) s.p } ∧
    Runs 0xEE 3 (.incAbsolute a) s
      { afterModify (.absolute a) (succByte (atEA (.absolute a) s)) 6 s with p := nz (succByte (atEA (.absolute a) s)) s.p } ∧
    Runs 0xFE 3 (.incAbsoluteX a) s
      { afterModify (.absoluteX a) (succByte (atEA (.absoluteX a) s)) (7 + storeCrossing (.absoluteX a) s) s with p := nz (succByte (atEA (.absoluteX a) s)) s.p } ∧
    Runs 0xC6 2 (.decZeroPage z) s
      { afterModify (.zeroPage z) (predByte (atEA (.zeroPage z) s)) 5 s with p := nz (predByte (atEA (.zeroPage z) s)) s.p } ∧
    Runs 0xD6 2 (.decZeroPageX z) s
      { afterModify (.zeroPageX z) (predByte (atEA (.zeroPageX z) s)) 6 s with p := nz (predByte (atEA (.zeroPageX z) s)) s.p } ∧
    Runs 0xCE 3 (.decAbsolute a) s
      { afterModify (.absolute a) (predByte (atEA (.absolute a) s)) 6 s with p := nz (predByte (atEA (.absolute a) s)) s.p } ∧
    Runs 0xDE 3 (.decAbsoluteX a) s
      { afterModify (.absoluteX a) (predByte (atEA (.absoluteX a) s)) (7 + storeCrossing (.absoluteX a) s) s with p := nz (predByte (atEA (.absoluteX a) s)) s.p }

/-- INX, INY, DEX and DEY (42_arithmetic.md R181 to R184). -/
def Obligations.IndexIncrementsComplete : Prop :=
  ∀ s : State,
    Runs 0xE8 1 .inx s { after s [] 2 with x := succByte s.x, p := nz (succByte s.x) s.p } ∧
    Runs 0xC8 1 .iny s { after s [] 2 with y := succByte s.y, p := nz (succByte s.y) s.p } ∧
    Runs 0xCA 1 .dex s { after s [] 2 with x := predByte s.x, p := nz (predByte s.x) s.p } ∧
    Runs 0x88 1 .dey s { after s [] 2 with y := predByte s.y, p := nz (predByte s.y) s.p }

/-- AND, ORA and EOR (43_logical.md R200, R201, R202): every row of their encoding tables. That exec of an immediate
form makes no bus read, its byte being fetched by the step, is the model's, log 5 (DEDUCED). -/
def Obligations.LogicalInstructionsComplete : Prop :=
  ∀ (s : State) (v z : Byte) (a : Word),
    Runs 0x29 2 (.andImmediate v) s (setsA (.immediate v) (s.a &&& operandValue (.immediate v) s) 2 s) ∧
    Runs 0x25 2 (.andZeroPage z) s (setsA (.zeroPage z) (s.a &&& operandValue (.zeroPage z) s) 3 s) ∧
    Runs 0x35 2 (.andZeroPageX z) s (setsA (.zeroPageX z) (s.a &&& operandValue (.zeroPageX z) s) 4 s) ∧
    Runs 0x2D 3 (.andAbsolute a) s (setsA (.absolute a) (s.a &&& operandValue (.absolute a) s) 4 s) ∧
    Runs 0x3D 3 (.andAbsoluteX a) s (setsA (.absoluteX a) (s.a &&& operandValue (.absoluteX a) s) (4 + crossing (.absoluteX a) s) s) ∧
    Runs 0x39 3 (.andAbsoluteY a) s (setsA (.absoluteY a) (s.a &&& operandValue (.absoluteY a) s) (4 + crossing (.absoluteY a) s) s) ∧
    Runs 0x21 2 (.andIndexedIndirectX z) s (setsA (.indexedIndirectX z) (s.a &&& operandValue (.indexedIndirectX z) s) 6 s) ∧
    Runs 0x31 2 (.andIndirectIndexedY z) s (setsA (.indirectIndexedY z) (s.a &&& operandValue (.indirectIndexedY z) s) (5 + crossing (.indirectIndexedY z) s) s) ∧
    Runs 0x09 2 (.oraImmediate v) s (setsA (.immediate v) (s.a ||| operandValue (.immediate v) s) 2 s) ∧
    Runs 0x05 2 (.oraZeroPage z) s (setsA (.zeroPage z) (s.a ||| operandValue (.zeroPage z) s) 3 s) ∧
    Runs 0x15 2 (.oraZeroPageX z) s (setsA (.zeroPageX z) (s.a ||| operandValue (.zeroPageX z) s) 4 s) ∧
    Runs 0x0D 3 (.oraAbsolute a) s (setsA (.absolute a) (s.a ||| operandValue (.absolute a) s) 4 s) ∧
    Runs 0x1D 3 (.oraAbsoluteX a) s (setsA (.absoluteX a) (s.a ||| operandValue (.absoluteX a) s) (4 + crossing (.absoluteX a) s) s) ∧
    Runs 0x19 3 (.oraAbsoluteY a) s (setsA (.absoluteY a) (s.a ||| operandValue (.absoluteY a) s) (4 + crossing (.absoluteY a) s) s) ∧
    Runs 0x01 2 (.oraIndexedIndirectX z) s (setsA (.indexedIndirectX z) (s.a ||| operandValue (.indexedIndirectX z) s) 6 s) ∧
    Runs 0x11 2 (.oraIndirectIndexedY z) s (setsA (.indirectIndexedY z) (s.a ||| operandValue (.indirectIndexedY z) s) (5 + crossing (.indirectIndexedY z) s) s) ∧
    Runs 0x49 2 (.eorImmediate v) s (setsA (.immediate v) (s.a ^^^ operandValue (.immediate v) s) 2 s) ∧
    Runs 0x45 2 (.eorZeroPage z) s (setsA (.zeroPage z) (s.a ^^^ operandValue (.zeroPage z) s) 3 s) ∧
    Runs 0x55 2 (.eorZeroPageX z) s (setsA (.zeroPageX z) (s.a ^^^ operandValue (.zeroPageX z) s) 4 s) ∧
    Runs 0x4D 3 (.eorAbsolute a) s (setsA (.absolute a) (s.a ^^^ operandValue (.absolute a) s) 4 s) ∧
    Runs 0x5D 3 (.eorAbsoluteX a) s (setsA (.absoluteX a) (s.a ^^^ operandValue (.absoluteX a) s) (4 + crossing (.absoluteX a) s) s) ∧
    Runs 0x59 3 (.eorAbsoluteY a) s (setsA (.absoluteY a) (s.a ^^^ operandValue (.absoluteY a) s) (4 + crossing (.absoluteY a) s) s) ∧
    Runs 0x41 2 (.eorIndexedIndirectX z) s (setsA (.indexedIndirectX z) (s.a ^^^ operandValue (.indexedIndirectX z) s) 6 s) ∧
    Runs 0x51 2 (.eorIndirectIndexedY z) s (setsA (.indirectIndexedY z) (s.a ^^^ operandValue (.indirectIndexedY z) s) (5 + crossing (.indirectIndexedY z) s) s)

/-- BIT (43_logical.md R203): both rows of its encoding table. -/
def Obligations.BitCompletes : Prop :=
  ∀ (s : State) (z : Byte) (a : Word),
    Runs 0x24 2 (.bitZeroPage z) s (bitTested (.zeroPage z) 3 s) ∧
    Runs 0x2C 3 (.bitAbsolute a) s (bitTested (.absolute a) 4 s)

/-- ASL, LSR, ROL and ROR (44_shift_rotate.md R210 to R214): every row of their encoding tables. -/
def Obligations.ShiftInstructionsComplete : Prop :=
  ∀ (s : State) (z : Byte) (a : Word),
    Runs 0x0A 1 .aslAccumulator s (shiftsA (aslSpec s.a) s) ∧
    Runs 0x06 2 (.aslZeroPage z) s (shiftsM (.zeroPage z) (aslSpec (atEA (.zeroPage z) s)) 5 s) ∧
    Runs 0x16 2 (.aslZeroPageX z) s (shiftsM (.zeroPageX z) (aslSpec (atEA (.zeroPageX z) s)) 6 s) ∧
    Runs 0x0E 3 (.aslAbsolute a) s (shiftsM (.absolute a) (aslSpec (atEA (.absolute a) s)) 6 s) ∧
    Runs 0x1E 3 (.aslAbsoluteX a) s (shiftsM (.absoluteX a) (aslSpec (atEA (.absoluteX a) s)) (7 + storeCrossing (.absoluteX a) s) s) ∧
    Runs 0x4A 1 .lsrAccumulator s (shiftsA (lsrSpec s.a) s) ∧
    Runs 0x46 2 (.lsrZeroPage z) s (shiftsM (.zeroPage z) (lsrSpec (atEA (.zeroPage z) s)) 5 s) ∧
    Runs 0x56 2 (.lsrZeroPageX z) s (shiftsM (.zeroPageX z) (lsrSpec (atEA (.zeroPageX z) s)) 6 s) ∧
    Runs 0x4E 3 (.lsrAbsolute a) s (shiftsM (.absolute a) (lsrSpec (atEA (.absolute a) s)) 6 s) ∧
    Runs 0x5E 3 (.lsrAbsoluteX a) s (shiftsM (.absoluteX a) (lsrSpec (atEA (.absoluteX a) s)) (7 + storeCrossing (.absoluteX a) s) s) ∧
    Runs 0x2A 1 .rolAccumulator s (shiftsA (rolSpec s.p.c s.a) s) ∧
    Runs 0x26 2 (.rolZeroPage z) s (shiftsM (.zeroPage z) (rolSpec s.p.c (atEA (.zeroPage z) s)) 5 s) ∧
    Runs 0x36 2 (.rolZeroPageX z) s (shiftsM (.zeroPageX z) (rolSpec s.p.c (atEA (.zeroPageX z) s)) 6 s) ∧
    Runs 0x2E 3 (.rolAbsolute a) s (shiftsM (.absolute a) (rolSpec s.p.c (atEA (.absolute a) s)) 6 s) ∧
    Runs 0x3E 3 (.rolAbsoluteX a) s (shiftsM (.absoluteX a) (rolSpec s.p.c (atEA (.absoluteX a) s)) (7 + storeCrossing (.absoluteX a) s) s) ∧
    Runs 0x6A 1 .rorAccumulator s (shiftsA (rorSpec s.p.c s.a) s) ∧
    Runs 0x66 2 (.rorZeroPage z) s (shiftsM (.zeroPage z) (rorSpec s.p.c (atEA (.zeroPage z) s)) 5 s) ∧
    Runs 0x76 2 (.rorZeroPageX z) s (shiftsM (.zeroPageX z) (rorSpec s.p.c (atEA (.zeroPageX z) s)) 6 s) ∧
    Runs 0x6E 3 (.rorAbsolute a) s (shiftsM (.absolute a) (rorSpec s.p.c (atEA (.absolute a) s)) 6 s) ∧
    Runs 0x7E 3 (.rorAbsoluteX a) s (shiftsM (.absoluteX a) (rorSpec s.p.c (atEA (.absoluteX a) s)) (7 + storeCrossing (.absoluteX a) s) s)

/-- The eight branches (45_control_transfer.md R220 to R228). -/
def Obligations.BranchInstructionsComplete : Prop :=
  ∀ (s : State) (o : Byte),
    Runs 0x10 2 (.bpl o) s (branched o (!s.p.n) s) ∧
    Runs 0x30 2 (.bmi o) s (branched o s.p.n s) ∧
    Runs 0x50 2 (.bvc o) s (branched o (!s.p.v) s) ∧
    Runs 0x70 2 (.bvs o) s (branched o s.p.v s) ∧
    Runs 0x90 2 (.bcc o) s (branched o (!s.p.c) s) ∧
    Runs 0xB0 2 (.bcs o) s (branched o s.p.c s) ∧
    Runs 0xD0 2 (.bne o) s (branched o (!s.p.z) s) ∧
    Runs 0xF0 2 (.beq o) s (branched o s.p.z s)

/-- JMP (45_control_transfer.md R229; 40_addressing_modes.md R139). -/
def Obligations.JumpInstructionsComplete : Prop :=
  ∀ (s : State) (a p : Word),
    Runs 0x4C 3 (.jmpAbsolute a) s { after s [] 3 with pc := a } ∧
    Runs 0x6C 3 (.jmpIndirect p) s
      { after s [.read p, .read (pointerHigh p)] 5 with pc := wordOf (s.byteAt (pointerHigh p)) (s.byteAt p) }

/-- JSR and RTS (45_control_transfer.md R230, R231). -/
def Obligations.CallAndReturnComplete : Prop :=
  ∀ (s : State) (a : Word),
    Runs 0x20 3 (.jsr a) s { pushAll [hiByte (s.pc - 1), loByte (s.pc - 1)] (after s [] 6) with pc := a } ∧
    Runs 0x60 1 .rts s { afterPulls 2 6 s with pc := wordOf (pulled 2 s) (pulled 1 s) + 1 }

/-- PHA, PHP, PLA and PLP (46_stack_transfer.md R240 to R243; 10_state.md R47, R48). -/
def Obligations.StackInstructionsComplete : Prop :=
  ∀ s : State,
    Runs 0x48 1 .pha s (pushAll [s.a] (after s [] 3)) ∧
    Runs 0x08 1 .php s (pushAll [statusByte s.p true] (after s [] 3)) ∧
    Runs 0x68 1 .pla s { afterPulls 1 4 s with a := pulled 1 s, p := nz (pulled 1 s) s.p } ∧
    Runs 0x28 1 .plp s { afterPulls 1 4 s with p := statusOf (pulled 1 s) }

/-- The register transfers (46_stack_transfer.md R244 to R249). -/
def Obligations.TransferInstructionsComplete : Prop :=
  ∀ s : State,
    Runs 0xAA 1 .tax s { after s [] 2 with x := s.a, p := nz s.a s.p } ∧
    Runs 0xA8 1 .tay s { after s [] 2 with y := s.a, p := nz s.a s.p } ∧
    Runs 0x8A 1 .txa s { after s [] 2 with a := s.x, p := nz s.x s.p } ∧
    Runs 0x98 1 .tya s { after s [] 2 with a := s.y, p := nz s.y s.p } ∧
    Runs 0xBA 1 .tsx s { after s [] 2 with x := s.sp, p := nz s.sp s.p } ∧
    Runs 0x9A 1 .txs s { after s [] 2 with sp := s.x }

/-- The flag instructions and NOP (47_flags_system.md R260 to R267). -/
def Obligations.FlagInstructionsComplete : Prop :=
  ∀ s : State,
    Runs 0x18 1 .clc s { after s [] 2 with p := { s.p with c := false } } ∧
    Runs 0x38 1 .sec s { after s [] 2 with p := { s.p with c := true } } ∧
    Runs 0x58 1 .cli s { after s [] 2 with p := { s.p with i := false } } ∧
    Runs 0x78 1 .sei s { after s [] 2 with p := { s.p with i := true } } ∧
    Runs 0xD8 1 .cld s { after s [] 2 with p := { s.p with d := false } } ∧
    Runs 0xF8 1 .sed s { after s [] 2 with p := { s.p with d := true } } ∧
    Runs 0xB8 1 .clv s { after s [] 2 with p := { s.p with v := false } } ∧
    Runs 0xEA 1 .nop s (after s [] 2)

/-- BRK (47_flags_system.md R268). -/
def Obligations.BrkCompletes : Prop :=
  ∀ s : State, Runs 0x00 1 .brk s (entered (s.pc + 1) true 0xFFFE s)

/-- RTI (47_flags_system.md R269). -/
def Obligations.RtiCompletes : Prop :=
  ∀ s : State,
    Runs 0x40 1 .rti s { afterPulls 3 6 s with p := statusOf (pulled 1 s), pc := wordOf (pulled 3 s) (pulled 2 s) }

/-! ### What every instruction leaves alone, and the resolvers -/

/-- Handlers never throw (60_exceptions.md R311), and none of them writes the block state of 10_state.md R44 but
cycle_total. The parameters are those of 00_scope.md R7; that they are a field of the state is log 2 (DESIGN CHOICE).
-/
def Obligations.EveryInstructionCompletes : Prop :=
  ∀ (i : Instr) (s : State), ∃ t, exec i s = .next t ∧ t.loopState = s.loopState ∧ t.fault = s.fault ∧
    t.nmiPending = s.nmiPending ∧ t.irqLine = s.irqLine ∧ t.params = s.params

/-- Status bits not defined by an operation are unchanged (10_state.md R40), with the writers of R42. -/
def Obligations.UnlistedFlagsKeepTheirValue : Prop :=
  ∀ (i : Instr) (s t : State) (f : Flag), exec i s = .next t → i.mnemonic ∉ flagWriters f → t.p.test f = s.p.test f

/-- The writers of A, X, Y and SP (10_state.md R31, R32, R33, R35). -/
def Obligations.RegistersChangeOnlyByTheirWriters : Prop :=
  ∀ (i : Instr) (s t : State), exec i s = .next t →
    (i.mnemonic ∉ [.lda, .adc, .sbc, .and, .ora, .eor, .pla, .txa, .tya] → i.mode ≠ .accumulator → t.a = s.a) ∧
    (i.mnemonic ∉ [.ldx, .tax, .tsx, .inx, .dex] → t.x = s.x) ∧
    (i.mnemonic ∉ [.ldy, .tay, .iny, .dey] → t.y = s.y) ∧
    (i.mnemonic ∉ [.txs, .pha, .php, .pla, .plp, .jsr, .rts, .brk, .rti] → t.sp = s.sp)

/-- Only the rules that list a bus write change memory (20_memory.md R76). -/
def Obligations.NonStoringFormsKeepMemory : Prop :=
  ∀ (i : Instr) (s t : State), exec i s = .next t → (i.mnemonic ∉ storers ∨ i.mode = .accumulator) →
    i.mnemonic ∉ pushers → ∀ b : Word, t.byteAt b = s.byteAt b

/-- The one write of a storing form is at EA (40_addressing_modes.md R146). -/
def Obligations.StoringFormsTouchOneByte : Prop :=
  ∀ (i : Instr) (o : Operand) (s t : State), exec i s = .next t → i.mnemonic ∈ storers → i.operand = some o →
    (∀ b : Word, b ≠ effectiveAddress o s → t.byteAt b = s.byteAt b) ∧
    (i.mnemonic = .sta → t.byteAt (effectiveAddress o s) = s.a) ∧
    (i.mnemonic = .stx → t.byteAt (effectiveAddress o s) = s.x) ∧
    (i.mnemonic = .sty → t.byteAt (effectiveAddress o s) = s.y)

/-- A push writes one byte of the stack page (20_memory.md R77, R78). -/
def Obligations.PushesTouchOnlyTheirStackBytes : Prop :=
  ∀ (i : Instr) (s t : State), exec i s = .next t →
    (i.mnemonic ∈ [.pha, .php] → ∀ b, b ≠ stackByte s.sp → t.byteAt b = s.byteAt b) ∧
    (i.mnemonic = .jsr → ∀ b, b ≠ stackByte s.sp → b ≠ stackByte (s.sp - 1) → t.byteAt b = s.byteAt b) ∧
    (i.mnemonic = .brk → ∀ b, b ≠ stackByte s.sp → b ≠ stackByte (s.sp - 1) → b ≠ stackByte (s.sp - 2) →
      t.byteAt b = s.byteAt b)

/-- The cycle count of one instruction (48_execute_loop.md R287, R288). -/
def Obligations.CycleCountOfEveryInstruction : Prop :=
  ∀ (i : Instr) (s t : State), exec i s = .next t →
    t.cycleTotal = s.cycleTotal + BitVec.ofNat 64 (i.baseCycles + cyclesExtra i s + pageCycles i s)

/-- The range of the cycle counts of 48_execute_loop.md R287 and R288. -/
def Obligations.InstructionsCostTwoToEightCycles : Prop :=
  ∀ (i : Instr) (s t : State), exec i s = .next t →
    ∃ c, 2 ≤ c ∧ c ≤ 8 ∧ (c = 8 → s.params.pagePenaltyOnStoreRmw = true) ∧
      t.cycleTotal = s.cycleTotal + BitVec.ofNat 64 c

/-- The eleven resolvers (40_addressing_modes.md R132 to R142). That PC is already past the operand bytes is log 5. -/
def Obligations.ResolversComputeTheirAddresses : Prop :=
  ∀ (s : State) (v z o : Byte) (a p : Word),
    let wrap := fun n : Nat => BitVec.ofNat 16 (n % 256)
    let pointer := fun n : Nat => wordOf (s.byteAt (wrap (n + 1))) (s.byteAt (wrap n))
    let crosses := fun (b : Word) (i : Byte) => decide ((b.toNat + i.toNat) % 65536 / 256 ≠ b.toNat / 256)
    let is := fun (m : Operand) (ea : Word) (crossed : Bool) (reads : List BusAccess) =>
      (resolve m s).ea = ea ∧ (resolve m s).crossed = crossed ∧ (resolve m s).state = { s with bus := s.bus ++ reads }
    is (.immediate v) (s.pc - 1) false [] ∧
    is (.zeroPage z) (wrap z.toNat) false [] ∧
    is (.zeroPageX z) (wrap (z.toNat + s.x.toNat)) false [] ∧
    is (.zeroPageY z) (wrap (z.toNat + s.y.toNat)) false [] ∧
    is (.absolute a) a false [] ∧
    is (.absoluteX a) (BitVec.ofNat 16 (a.toNat + s.x.toNat)) (crosses a s.x) [] ∧
    is (.absoluteY a) (BitVec.ofNat 16 (a.toNat + s.y.toNat)) (crosses a s.y) [] ∧
    is (.indirect p) (wordOf (s.byteAt (pointerHigh p)) (s.byteAt p)) false [.read p, .read (pointerHigh p)] ∧
    is (.indexedIndirectX z) (pointer (z.toNat + s.x.toNat)) false
      [.read (wrap (z.toNat + s.x.toNat)), .read (wrap (z.toNat + s.x.toNat + 1))] ∧
    is (.indirectIndexedY z) (BitVec.ofNat 16 ((pointer z.toNat).toNat + s.y.toNat)) (crosses (pointer z.toNat) s.y)
      [.read (wrap z.toNat), .read (wrap (z.toNat + 1))] ∧
    is (.relative o) (branchTarget o s) false []

/-! ### The step, interrupts and Halted -/

/-- A step in Fetching runs the decoded instruction (48_execute_loop.md R282, R284, R285). DEDUCED form, logs 4 and 5.
-/
def Obligations.StepRunsTheDecodedInstruction : Prop :=
  ∀ (s : State) (i : Instr) (rest : List Byte), Running s → decode (bytesAtPc s) = .ok (i, rest) →
    step s = exec i (fetched i.length s)

/-- DecodeFault (48_execute_loop.md R283; 60_exceptions.md R310). That the step answers a next state, where the spec's
step returns Err, is log 4 (DEDUCED); hostStep gives the Err. -/
def Obligations.InvalidOpcodeHalts : Prop :=
  ∀ s : State, Running s → s.byteAt s.pc ∈ invalidOpcodes →
    step s = .next { s with
      pc := s.pc + 1, bus := [.read s.pc], loopState := .halted, fault := some ⟨s.byteAt s.pc, s.pc⟩ } ∧
      (hostStep s).2 = .err (some ⟨s.byteAt s.pc, s.pc⟩)

/-- Halted (48_execute_loop.md R290; 60_exceptions.md R324). That a step in Halted answers a fault is log 4. -/
def Obligations.HaltedStepsChangeNothing : Prop :=
  ∀ (s : State) (level : Bool), s.loopState = .halted →
    step s = .fault (.halted s.fault) ∧ step (setIrq level s) = .fault (.halted s.fault) ∧
    step (signalNmi s) = .fault (.halted s.fault) ∧ (signalNmi s).nmiPending = true ∧ (setIrq level s).irqLine = level ∧
    (hostReset s).loopState = .fetching ∧ (hostReset s).fault = none

/-- Acceptance, priority and entry (60_exceptions.md R317, R318, R319). -/
def Obligations.InterruptEntryAndPriority : Prop :=
  ∀ s : State, s.loopState = .fetching →
    (s.nmiPending = true →
      step s = .next (entered s.pc false 0xFFFA { s with nmiPending := false, bus := [] }) ∧ (hostStep s).2 = .ok 7) ∧
    (s.nmiPending = false → s.irqLine = true → s.p.i = false →
      step s = .next (entered s.pc false 0xFFFE { s with bus := [] }) ∧ (hostStep s).2 = .ok 7) ∧
    (s.nmiPending = false → (s.irqLine = false ∨ s.p.i = true) → step s = executeOne { s with bus := [] })

/-- Interrupt-mask timing (70_reset_and_hazards.md R348). -/
def Obligations.CliLetsIrqInAtTheNextBoundary : Prop :=
  ∀ s : State, Running s → s.irqLine = true → s.byteAt s.pc = 0x58 →
    ∃ t, step s = .next t ∧ t.p.i = false ∧ t.pc = s.pc + 1 ∧
      step t = .next (entered (s.pc + 1) false 0xFFFE { t with bus := [] })

/-- The outcomes of a step (48_execute_loop.md R280), and that no other fault exists (60_exceptions.md R311). Where
the spec's step returns Err, that the model answers next for an Invalid opcode (DEDUCED) and the outcome fault in
Halted (DESIGN CHOICE) is log 4. -/
def Obligations.StepAnswersNextExactlyInFetching : Prop :=
  ∀ s : State,
    (s.loopState = .fetching → ∃ t, step s = .next t ∧ t.params = s.params ∧ t.irqLine = s.irqLine) ∧
    (s.loopState = .halted → step s = .fault (.halted s.fault))

/-- P.B = 0 in every reachable state (10_state.md R39) and the fault record of Halted (R44), with the canonical memory
of log 9. -/
def Obligations.StepKeepsInvariant : Prop :=
  ∀ s t : State, StateInv s → step s = .next t → StateInv t

/-- The invariant at reset (10_state.md R45, R46). -/
def Obligations.ResetStateMeetsInvariant : Prop :=
  StateInv State.reset

/-- The host operations (48_execute_loop.md R295) and the invariant. peek and inspect (R298, R301) return a value and
no state. That run(until_halt) is a relation is log 11 (DESIGN CHOICE). -/
def Obligations.HostOperationsKeepInvariant : Prop :=
  (∀ (s : State) (addr : Word) (v : Byte) (l : List Byte) (level : Bool), StateInv s →
      StateInv (load addr l s) ∧ StateInv (poke addr v s) ∧ StateInv (setIrq level s) ∧ StateInv (signalNmi s)) ∧
    (∀ (s : State) (n : Nat), StateInv s → StateInv (hostStep s).1 ∧ StateInv (run n s).state) ∧
    (∀ (s : State) (r : RunResult), StateInv s → RunsUntilHalt s r → StateInv r.state) ∧
    (∀ s : State, s.mem.wf = true → StateInv (hostReset s)) ∧
    (∀ (params : Params) (draw : PowerOnRegs), StateInv (construct params draw))

/-- The bus transactions of a step are those the rules list (20_memory.md R76), and only a write changes memory (R72,
R84). -/
def Obligations.MemoryIsTheReplayOfTheBusWrites : Prop :=
  ∀ s t : State, step s = .next t → t.mem = replay s.mem t.bus

/-- No instruction reads cycle_total, and no other state depends on it (48_execute_loop.md R289). -/
def Obligations.StepReadsNoCycleTotal : Prop :=
  ∀ (s : State) (k : CycleCount),
    (∀ t, step s = .next t →
      step (withCycleTotal k s) = .next (withCycleTotal (k + (t.cycleTotal - s.cycleTotal)) t)) ∧
    (∀ f, step s = .fault f → step (withCycleTotal k s) = .fault f)

/-- No rule reads P.B (10_state.md R39). -/
def Obligations.BreakBitIsNeverRead : Prop :=
  ∀ (s : State) (b : Bool),
    (∀ t, step s = .next t → ∃ b', step (withBreak b s) = .next (withBreak b' t)) ∧
    (∀ f, step s = .fault f → step (withBreak b s) = .fault f)

/-- PC advance (48_execute_loop.md R291). -/
def Obligations.PcAdvancesByTheInstructionLength : Prop :=
  ∀ (s t : State) (i : Instr) (rest : List Byte), Running s → decode (bytesAtPc s) = .ok (i, rest) →
    i.mnemonic ∉ transfers → step s = .next t → t.pc = BitVec.ofNat 16 (s.pc.toNat + 1 + i.mode.width)

/-- Instruction-fetch coherence (20_memory.md R89). That PC in exec is the address of the next instruction is log 5
(DEDUCED), and that a step on an Invalid opcode answers a next state is log 4 (DEDUCED). -/
def Obligations.StoredByteIsTheNextOpcode : Prop :=
  (∀ (s t : State) (l l' : List BusAccess) (v : Byte), step s = .next t → t.bus = l ++ .write t.pc v :: l' →
      (∀ w, .write t.pc w ∉ l') → FetchesNext v t) ∧
    (∀ (i : Instr) (o : Operand) (s t : State), exec i s = .next t → i.mnemonic ∈ storers → i.operand = some o →
      effectiveAddress o s = s.pc →
      ∃ (l : List BusAccess) (v : Byte), t.bus = s.bus ++ l ++ [.write s.pc v] ∧ t.pc = s.pc ∧ FetchesNext v t ∧
        (i.mnemonic = .sta → v = s.a) ∧ (i.mnemonic = .stx → v = s.x) ∧ (i.mnemonic = .sty → v = s.y)) ∧
    (∀ s : State, stackByte s.sp = s.pc →
      (∃ t, exec .pha s = .next t ∧ t.pc = s.pc ∧ FetchesNext s.a t) ∧
      (∃ t, exec .php s = .next t ∧ t.pc = s.pc ∧ FetchesNext (statusByte s.p true) t))

/-! ### Round trips over the stack -/

/-- RTI resumes at the instruction that had not been fetched (60_exceptions.md R321). -/
def Obligations.RtiUndoesAnInterruptEntry : Prop :=
  ∀ s t : State, s.loopState = .fetching → s.p.b = false →
    (s.nmiPending = true ∨ (s.irqLine = true ∧ s.p.i = false)) → step s = .next t →
    ∃ u, exec .rti t = .next u ∧ u.pc = s.pc ∧ u.sp = s.sp ∧ u.p = s.p ∧ u.a = s.a ∧ u.x = s.x ∧ u.y = s.y ∧
      ∀ b, b ≠ stackByte s.sp → b ≠ stackByte (s.sp - 1) → b ≠ stackByte (s.sp - 2) → u.byteAt b = s.byteAt b

/-- The stack linkage of 45_control_transfer.md R233 and 60_exceptions.md R321. -/
def Obligations.StackRoundTrips : Prop :=
  ∀ (s : State) (a : Word), s.p.b = false →
    (∃ t u, exec (.jsr a) s = .next t ∧ exec .rts t = .next u ∧ u.pc = s.pc ∧ u.sp = s.sp ∧ u.p = s.p) ∧
    (∃ t u, exec .brk s = .next t ∧ exec .rti t = .next u ∧ u.pc = s.pc + 1 ∧ u.sp = s.sp ∧ u.p = s.p) ∧
    (∃ t u, exec .pha s = .next t ∧ exec .pla t = .next u ∧ u.a = s.a ∧ u.sp = s.sp) ∧
    (∃ t u, exec .php s = .next t ∧ exec .plp t = .next u ∧ u.p = s.p ∧ u.sp = s.sp)

/-! ### Encoding -/

/-- Decode and encode agree (30_encoding.md R100, R103, R104). -/
def Obligations.DecodeInvertsEncode : Prop :=
  ∀ (i : Instr) (rest : List Byte), decode (encode i ++ rest) = .ok (i, rest)

/-- Each byte has one meaning (30_encoding.md R106). -/
def Obligations.EncodeInvertsDecode : Prop :=
  ∀ (l rest : List Byte) (i : Instr), decode l = .ok (i, rest) → l = encode i ++ rest

/-- The Invalid bytes (30_encoding.md R105). What a step does on one is InvalidOpcodeHalts. -/
def Obligations.InvalidOpcodesAreTheListed105 : Prop :=
  invalidOpcodes.length = 105 ∧
    ∀ (op : Byte) (rest : List Byte), decode (op :: rest) = .error (.invalidOpcode op) ↔ op ∈ invalidOpcodes

/-- The descriptors of the dispatch table (30_encoding.md R101, R102, R107). -/
def Obligations.DescriptorsMatchInstructions : Prop :=
  ∀ i : Instr,
    (i.operand = none → descriptor i.opcode = .noOperand i.mnemonic i.baseCycles) ∧
    (i.operand ≠ none → descriptor i.opcode = .withOperand i.mnemonic i.baseCycles i.mode) ∧
    (encode i).length = 1 + i.mode.width ∧ i.wellFormed = true

/-- A few words of the encoding tables (30_encoding.md R104, R110). -/
def Obligations.SampleWordsDecode : Prop :=
  decode [0xA9, 0x80] = .ok (.ldaImmediate 0x80, []) ∧ decode [0xBD, 0x34, 0x12] = .ok (.ldaAbsoluteX 0x1234, []) ∧
    decode [0x6C, 0xFF, 0x02] = .ok (.jmpIndirect 0x02FF, []) ∧ decode [0xB1, 0x20] = .ok (.ldaIndirectIndexedY 0x20, []) ∧
    decode [0x96, 0xFF] = .ok (.stxZeroPageY 0xFF, []) ∧ decode [0xD0, 0xFC] = .ok (.bne 0xFC, []) ∧
    decode [0x0A] = .ok (.aslAccumulator, []) ∧ decode [0x20, 0x00, 0x80] = .ok (.jsr 0x8000, []) ∧
    decode [0x00] = .ok (.brk, []) ∧ decode [0xEA] = .ok (.nop, [])

/-- What `State.withFetchWord` promises (log 10). -/
def Obligations.PlacedWordRunsNext : Prop :=
  ∀ (s : State) (nbits w : Nat) (i : Instr), decodeTableWord nbits w = some i →
    step (s.withFetchWord nbits w) = exec i (fetched i.length (s.withFetchWord nbits w))

/-! ### The host operations -/

/-- reset() (70_reset_and_hazards.md R340). -/
def Obligations.ResetOperation : Prop :=
  ∀ s : State,
    hostReset s = { s with
      pc := wordOf (s.byteAt 0xFFFD) (s.byteAt 0xFFFC)
      sp := s.params.resetSp
      p := { s.p with i := true, b := false }
      loopState := .fetching, fault := none, nmiPending := false, cycleTotal := 0
      bus := [.read 0xFFFC, .read 0xFFFD] }

/-- Construction (10_state.md R46; 70_reset_and_hazards.md R343). That `State.reset` takes the zero draw is the
model's choice, log 1. -/
def Obligations.ConstructionForEveryDraw : Prop :=
  (∀ (params : Params) (draw : PowerOnRegs),
      let s := construct params draw
      s.pc = 0 ∧ s.sp = params.resetSp ∧
      s.p = { c := draw.c, z := draw.z, i := true, d := draw.d, b := false, v := draw.v, n := draw.n } ∧
      s.a = draw.a ∧ s.x = draw.x ∧ s.y = draw.y ∧ s.loopState = .fetching ∧ s.fault = none ∧
      s.nmiPending = false ∧ s.irqLine = false ∧ s.cycleTotal = 0 ∧ ∀ b, s.byteAt b = 0) ∧
    State.reset = construct Params.standard PowerOnRegs.zero

/-- load (48_execute_loop.md R299). -/
def Obligations.LoadWritesBytesInOrder : Prop :=
  ∀ (origin : Word) (l l' : List Byte) (s : State),
    (l.length ≤ 65536 → ∀ i (h : i < l.length), (load origin l s).byteAt (origin + BitVec.ofNat 16 i) = l[i]) ∧
    (∀ b, (∀ i, i < l.length → b ≠ origin + BitVec.ofNat 16 i) → (load origin l s).byteAt b = s.byteAt b) ∧
    load origin (l ++ l') s = load (origin + BitVec.ofNat 16 l.length) l' (load origin l s) ∧
    load origin l s = { s with mem := (load origin l s).mem }

/-- peek and poke (48_execute_loop.md R298, R300). -/
def Obligations.PokeAndPeek : Prop :=
  ∀ (s : State) (addr b : Word) (v : Byte),
    peek b (poke addr v s) = (if b = addr then v else peek b s) ∧ poke addr v s = { s with mem := (poke addr v s).mem }

/-- The status byte (10_state.md R36, R38) as the host sees it (48_execute_loop.md R301). -/
def Obligations.InspectShowsTheStatusByte : Prop :=
  ∀ s : State,
    (inspect s).p = statusByte s.p s.p.b ∧ (inspect s).p.toNat / 32 % 2 = 1 ∧
    statusOf (inspect s).p = { s.p with b := false }

/-- run (48_execute_loop.md R297) as repeated step() (R296). How step() is read off the model's step is logs 4 and 12.
-/
def Obligations.RunIsRepeatedStep : Prop :=
  (∀ s t : State, step s = .next t → (hostStep s).1 = t) ∧
    (∀ s : State, s.loopState = .halted → hostStep s = (s, .err s.fault)) ∧
    (∀ s : State, run 0 s = ⟨s, 0, none⟩) ∧
    (∀ (s t : State) (c : Nat), hostStep s = (t, .ok c) → run 1 s = ⟨t, c, none⟩) ∧
    (∀ (s t : State) (f : Option DecodeFault), hostStep s = (t, .err f) → run 1 s = ⟨t, 0, some f⟩) ∧
    (∀ (m n : Nat) (s : State),
      ((run m s).stopped = none →
        run (m + n) s = { run n (run m s).state with cycles := (run m s).cycles + (run n (run m s).state).cycles }) ∧
      (∀ f, (run m s).stopped = some f →
        run (m + n) s = run m s ∧ (run m s).state.loopState = .halted ∧ (run m s).state.fault = f))

/-- The result of step() (48_execute_loop.md R286, R296); how the model derives it is log 12. -/
def Obligations.HostStepReturnsTheCyclesOfTheInstruction : Prop :=
  ∀ s : State, Running s →
    (∀ i rest, decode (bytesAtPc s) = .ok (i, rest) →
      (hostStep s).2 = .ok (i.baseCycles + cyclesExtra i (fetched i.length s) + pageCycles i (fetched i.length s))) ∧
    (s.byteAt s.pc ∈ invalidOpcodes → (hostStep s).2 = .err (some ⟨s.byteAt s.pc, s.pc⟩))

/-- run(until_halt) (48_execute_loop.md R297), which "may not terminate". That it is a relation with no result for a
run without end is log 11 (DESIGN CHOICE). -/
def Obligations.RunUntilHaltEndsAtTheFirstErr : Prop :=
  ∀ s : State,
    (∀ r q, RunsUntilHalt s r → RunsUntilHalt s q → r = q) ∧
    (∀ t f, hostStep s = (t, .err f) → ∀ r, RunsUntilHalt s r ↔ r = ⟨t, 0, some f⟩) ∧
    (∀ t c, hostStep s = (t, .ok c) →
      ∀ r, RunsUntilHalt s r ↔ ∃ q, RunsUntilHalt t q ∧ r = { q with cycles := c + q.cycles }) ∧
    (∀ r, RunsUntilHalt s r → ∃ n f, run n s = r ∧ r.stopped = some f ∧ r.state.loopState = .halted ∧ r.state.fault = f) ∧
    ((∀ n, (run n s).stopped = none) → ∀ r, ¬ RunsUntilHalt s r)
end

