-- ==== Sys2Proof/Laws/Bits.lean ====
section
/-! SUPPORT. Bit fields as arithmetic: the two bytes of a 16-bit value, single bits, addresses of the zero page. -/

namespace Sys2Proof

theorem joinBytes_toNat (h l : Byte) : (joinBytes h l).toNat = 256 * h.toNat + l.toNat := by
  have := l.isLt
  simp only [joinBytes, BitVec.toNat_append]
  rw [← Nat.shiftLeft_add_eq_or_of_lt this, Nat.shiftLeft_eq]
  omega

theorem highByte_toNat (w : Word) : (highByte w).toNat = w.toNat / 256 := by
  have := w.isLt
  simp only [highByte, BitVec.extractLsb'_toNat, Nat.shiftRight_eq_div_pow]
  omega

theorem lowByte_toNat (w : Word) : (lowByte w).toNat = w.toNat % 256 := by
  simp [lowByte, BitVec.extractLsb'_toNat]

@[simp] theorem joinBytes_high_low (w : Word) : joinBytes (highByte w) (lowByte w) = w := by
  apply BitVec.eq_of_toNat_eq
  rw [joinBytes_toNat, highByte_toNat, lowByte_toNat]
  omega

@[simp] theorem highByte_joinBytes (h l : Byte) : highByte (joinBytes h l) = h := by
  have := l.isLt
  apply BitVec.eq_of_toNat_eq
  rw [highByte_toNat, joinBytes_toNat]
  omega

@[simp] theorem lowByte_joinBytes (h l : Byte) : lowByte (joinBytes h l) = l := by
  have := l.isLt
  apply BitVec.eq_of_toNat_eq
  rw [lowByte_toNat, joinBytes_toNat]
  omega

theorem zeroExtend_toNat (v : Byte) : (zeroExtend v).toNat = v.toNat := by
  have := v.isLt
  simp only [zeroExtend, BitVec.toNat_setWidth]
  omega

/-- Bit `k` of a byte as arithmetic (00_scope.md R8). -/
theorem bit_eq (v : Byte) (k : Nat) : v.getLsbD k = decide (v.toNat / 2 ^ k % 2 = 1) := by
  rw [BitVec.getLsbD, Nat.testBit_eq_decide_div_mod_eq]

/-- Bit 7 of a byte as arithmetic (10_state.md R41). -/
theorem bit7_eq (v : Byte) : v.getLsbD 7 = decide (128 ≤ v.toNat) := by
  have := v.isLt
  rw [bit_eq]
  congr 1
  apply propext
  omega

namespace Machine

theorem zeroPageAddress_toNat (z : Byte) : (zeroPageAddress z).toNat = z.toNat := by
  simp [zeroPageAddress, joinBytes_toNat]

/-- The pointer's high byte lies at `ptr + 1`, except that the low byte wraps inside its page
(40_addressing_modes.md R139). -/
theorem indirectHighAddress_toNat (p : Word) :
    (indirectHighAddress p).toNat = if p.toNat % 256 = 255 then p.toNat - 255 else p.toNat + 1 := by
  have := p.isLt
  have h1 : (1 : Byte).toNat = 1 := rfl
  simp only [indirectHighAddress, joinBytes_toNat, highByte_toNat, BitVec.toNat_add, lowByte_toNat, h1]
  split <;> omega

end Machine

end Sys2Proof
end

