-- ==== Sys2Proof/Laws/Decode.lean ====
section
/-! SUPPORT. The opcode table beside the encoder: the entry of an instruction's opcode, and what every entry says of the
instructions it makes. -/

namespace Sys2Proof

/-- What the instructions of an entry encode to (30_encoding.md R100, R101, R103). -/
def OpcodeRow.Sound (r : OpcodeRow) : Prop :=
  match r.shape with
  | .f1 i => encode i = [r.opcode] ∧ i.mnemonic = r.mnemonic ∧ i.mode = r.mode
  | .f2 make => ∀ b, encode (make b) = [r.opcode, b] ∧ (make b).mnemonic = r.mnemonic ∧ (make b).mode = r.mode
  | .f3 make =>
    ∀ a, encode (make a) = [r.opcode, lowByte a, highByte a] ∧ (make a).mnemonic = r.mnemonic ∧ (make a).mode = r.mode

theorem OpcodeRow.sound_of_mem {k : Nat} {r : OpcodeRow} (h : r ∈ opcodeMapRow k) : r.Sound := by
  have all : ∀ j < 16, ∀ r ∈ opcodeMapRow j, r.Sound := by
    intro j hj
    interval_cases j <;>
      · simp only [opcodeMapRow, opcodeRow0, opcodeRow1, opcodeRow2, opcodeRow3, opcodeRow4, opcodeRow5, opcodeRow6,
          opcodeRow7, opcodeRow8, opcodeRow9, opcodeRowA, opcodeRowB, opcodeRowC, opcodeRowD, opcodeRowE, opcodeRowF,
          List.forall_mem_cons, List.not_mem_nil, false_implies, implies_true, and_true]
        and_intros <;> first | exact rfl | exact fun _ => ⟨rfl, rfl, rfl⟩
  by_cases hk : k < 16
  · exact all k hk r h
  · match k, hk, h with
    | k + 16, _, h => exact absurd h List.not_mem_nil

/-- The entry an opcode byte selects lists that byte and is sound. -/
theorem opcodeRow_sound {op : Byte} {r : OpcodeRow} (h : opcodeRow op = some r) : r.opcode = op ∧ r.Sound :=
  ⟨by simpa using List.find?_some h, OpcodeRow.sound_of_mem (List.mem_of_find?_eq_some h)⟩

/-- The entry of an instruction's opcode makes that instruction. -/
theorem opcodeRow_opcode (i : Instr) :
    ∃ r, opcodeRow i.opcode = some r ∧ r.mnemonic = i.mnemonic ∧ r.mode = i.mode ∧
      (r.shape = .f1 i ∨ (∃ make b, r.shape = .f2 make ∧ make b = i) ∨ ∃ make a, r.shape = .f3 make ∧ make a = i) := by
  cases i <;> simp only [Instr.opcode, encode, List.headD_cons] <;>
    first
    | exact ⟨_, rfl, rfl, rfl, .inl rfl⟩
    | exact ⟨_, rfl, rfl, rfl, .inr (.inl ⟨_, _, rfl, rfl⟩)⟩
    | exact ⟨_, rfl, rfl, rfl, .inr (.inr ⟨_, _, rfl, rfl⟩)⟩

/-- Every base cycle count lies between 2 and 7 (48_execute_loop.md R287). -/
theorem opcodeRow_baseCycles {op : Byte} {r : OpcodeRow} (h : opcodeRow op = some r) :
    2 ≤ r.baseCycles ∧ r.baseCycles ≤ 7 := by
  have all : ∀ op : Byte, ((opcodeRow op).all fun r => decide (2 ≤ r.baseCycles ∧ r.baseCycles ≤ 7)) = true := by
    decide +kernel
  simpa [h] using all op

end Sys2Proof
end

