-- ==== Sys2Proof/Laws/Memory.lean ====
section
/-! SUPPORT. The bus memory: a read after a write, and the canonical form, which every operation keeps and in which equal
contents are equal data. -/

namespace Sys2Proof.Machine

theorem Memory.read_erase (m : Memory) (a b : Nat) :
    (m.erase a).read b = if b = a then 0 else m.read b := by
  induction m with
  | nil => simp [Memory.erase, Memory.read]
  | cons kv m ih =>
    obtain ⟨k, v⟩ := kv
    by_cases hk : k = a <;> by_cases hb : k = b <;> simp_all [Memory.erase, Memory.read]

/-- No entry of the list is at address `a`. -/
def Memory.Absent (m : Memory) (a : Nat) : Prop := ∀ c ∈ m, c.1 ≠ a

theorem Memory.absent_cons {k : Nat} {w : Byte} {m : Memory} {a : Nat} :
    Memory.Absent ((k, w) :: m) a ↔ k ≠ a ∧ Memory.Absent m a := by
  simp only [Memory.Absent, List.mem_cons, forall_eq_or_imp]

theorem Memory.erase_absent (m : Memory) (a : Nat) : Memory.Absent (m.erase a) a := by
  induction m with
  | nil => intro c hc; cases hc
  | cons kv m ih =>
    obtain ⟨k, v⟩ := kv
    by_cases hk : k = a
    · rwa [Memory.erase, if_pos hk]
    · rw [Memory.erase, if_neg hk, Memory.absent_cons]
      exact ⟨hk, ih⟩

theorem Memory.read_insert {m : Memory} {a : Nat} (b : Nat) (v : Byte) (habs : Memory.Absent m a) :
    (m.insert a v).read b = if b = a then v else m.read b := by
  induction m with
  | nil => simp only [Memory.insert, Memory.read, eq_comm]
  | cons kw m ih =>
    obtain ⟨k, w⟩ := kw
    rw [Memory.absent_cons] at habs
    by_cases hlt : a < k
    · rw [Memory.insert, if_pos hlt, Memory.read]
      simp only [eq_comm]
    · rw [Memory.insert, if_neg hlt, Memory.read, ih habs.2, Memory.read]
      by_cases hk : k = b
      · subst hk
        simp only [if_true, if_neg habs.1]
      · simp only [if_neg hk]

/-- A read after a write gives the byte written at its address and the old byte everywhere else (20_memory.md R71, R72),
in every memory, canonical or not. -/
theorem Memory.read_write (m : Memory) (a b : Nat) (v : Byte) :
    (m.write a v).read b = if b = a then v else m.read b := by
  by_cases hv : v = 0
  · simp [Memory.write, hv, Memory.read_erase]
  · rw [Memory.write, if_neg hv, Memory.read_insert b v (Memory.erase_absent m a), Memory.read_erase]
    by_cases hb : b = a <;> simp only [hb, if_true, if_false]

@[simp] theorem Memory.read_write_same (m : Memory) (a : Nat) (v : Byte) : (m.write a v).read a = v := by
  simp [Memory.read_write]

theorem Memory.read_write_other (m : Memory) {a b : Nat} (v : Byte) (h : b ≠ a) :
    (m.write a v).read b = m.read b := by
  simp [Memory.read_write, h]

theorem Memory.risingFrom_mono {lo lo' : Nat} {m : Memory} (hle : lo' ≤ lo) (h : m.risingFrom lo = true) :
    m.risingFrom lo' = true := by
  cases m with
  | nil => rfl
  | cons kv m =>
    simp only [Memory.risingFrom, Bool.and_eq_true, decide_eq_true_eq] at h ⊢
    exact ⟨⟨⟨hle.trans h.1.1.1, h.1.1.2⟩, h.1.2⟩, h.2⟩

theorem Memory.risingFrom_erase {lo : Nat} {m : Memory} (a : Nat) (h : m.risingFrom lo = true) :
    (m.erase a).risingFrom lo = true := by
  induction m generalizing lo with
  | nil => rfl
  | cons kv m ih =>
    obtain ⟨k, v⟩ := kv
    simp only [Memory.risingFrom, Bool.and_eq_true, decide_eq_true_eq] at h
    by_cases hk : k = a
    · rw [Memory.erase, if_pos hk]
      exact Memory.risingFrom_mono (by omega) (ih h.2)
    · simp only [Memory.erase, if_neg hk, Memory.risingFrom, Bool.and_eq_true, decide_eq_true_eq]
      exact ⟨h.1, ih h.2⟩

theorem Memory.risingFrom_insert {lo : Nat} {m : Memory} {a : Nat} {v : Byte} (hlo : lo ≤ a) (ha : a < 65536)
    (hv : v ≠ 0) (habs : Memory.Absent m a) (h : m.risingFrom lo = true) :
    (m.insert a v).risingFrom lo = true := by
  induction m generalizing lo with
  | nil =>
    simp only [Memory.insert, Memory.risingFrom, Bool.and_eq_true, decide_eq_true_eq]
    exact ⟨⟨⟨hlo, ha⟩, hv⟩, trivial⟩
  | cons kw m ih =>
    obtain ⟨k, w⟩ := kw
    simp only [Memory.risingFrom, Bool.and_eq_true, decide_eq_true_eq] at h
    rw [Memory.absent_cons] at habs
    by_cases hlt : a < k
    · simp only [Memory.insert, if_pos hlt, Memory.risingFrom, Bool.and_eq_true, decide_eq_true_eq]
      exact ⟨⟨⟨hlo, ha⟩, hv⟩, ⟨⟨by omega, h.1.1.2⟩, h.1.2⟩, h.2⟩
    · simp only [Memory.insert, if_neg hlt, Memory.risingFrom, Bool.and_eq_true, decide_eq_true_eq]
      exact ⟨⟨⟨h.1.1.1, h.1.1.2⟩, h.1.2⟩, ih (by omega) habs.2 h.2⟩

/-- Every memory operation keeps the canonical form: writing is the only one. -/
theorem Memory.wf_write {m : Memory} {a : Nat} (v : Byte) (ha : a < 65536) (h : m.wf = true) :
    (m.write a v).wf = true := by
  by_cases hv : v = 0
  · simpa [Memory.write, hv, Memory.wf] using Memory.risingFrom_erase a h
  · simp only [Memory.write, hv, if_false, Memory.wf]
    exact Memory.risingFrom_insert (Nat.zero_le a) ha hv (Memory.erase_absent m a) (Memory.risingFrom_erase a h)

theorem Memory.wf_write_word {m : Memory} (addr : Word) (v : Byte) (h : m.wf = true) :
    (m.write addr.toNat v).wf = true :=
  Memory.wf_write v addr.isLt h

theorem Memory.wf_storeBytes (l : List Byte) (addr : Word) {m : Memory} (h : m.wf = true) :
    (storeBytes l addr m).wf = true := by
  induction l generalizing addr m with
  | nil => exact h
  | cons b l ih => exact ih _ (Memory.wf_write_word addr b h)

theorem Memory.read_below {lo a : Nat} {m : Memory} (h : m.risingFrom lo = true) (ha : a < lo) : m.read a = 0 := by
  induction m generalizing lo with
  | nil => rfl
  | cons kv m ih =>
    obtain ⟨k, v⟩ := kv
    simp only [Memory.risingFrom, Bool.and_eq_true, decide_eq_true_eq] at h
    have hk : k ≠ a := by omega
    simp only [Memory.read, hk, if_false]
    exact ih h.2 (by omega)

theorem Memory.ext_risingFrom {lo : Nat} {m m' : Memory} (h : m.risingFrom lo = true) (h' : m'.risingFrom lo = true)
    (hr : ∀ a, m.read a = m'.read a) : m = m' := by
  induction m generalizing lo m' with
  | nil =>
    cases m' with
    | nil => rfl
    | cons kv m' =>
      obtain ⟨k, v⟩ := kv
      simp only [Memory.risingFrom, Bool.and_eq_true, decide_eq_true_eq] at h'
      exact absurd (by simpa [Memory.read] using (hr k).symm) h'.1.2
  | cons kv m ih =>
    obtain ⟨k, v⟩ := kv
    simp only [Memory.risingFrom, Bool.and_eq_true, decide_eq_true_eq] at h
    cases m' with
    | nil => exact absurd (by simpa [Memory.read] using hr k) h.1.2
    | cons kv' m' =>
      obtain ⟨k', v'⟩ := kv'
      simp only [Memory.risingFrom, Bool.and_eq_true, decide_eq_true_eq] at h'
      have hk : k = k' := by
        rcases Nat.lt_trichotomy k k' with hlt | heq | hgt
        · have := hr k
          simp only [Memory.read, if_true, (show ¬ k' = k by omega), if_false,
            Memory.read_below h'.2 (show k < k' + 1 by omega)] at this
          exact absurd this h.1.2
        · exact heq
        · have := hr k'
          simp only [Memory.read, if_true, (show ¬ k = k' by omega), if_false,
            Memory.read_below h.2 (show k' < k + 1 by omega)] at this
          exact absurd this.symm h'.1.2
      subst hk
      have hv : v = v' := by simpa [Memory.read] using hr k
      subst hv
      refine congrArg _ (ih h.2 h'.2 fun a => ?_)
      by_cases ha : k = a
      · subst ha
        rw [Memory.read_below h.2 (by omega), Memory.read_below h'.2 (by omega)]
      · simpa [Memory.read, ha] using hr a

/-- Two canonical memories with the same contents are the same list. -/
theorem Memory.ext_of_wf {m m' : Memory} (h : m.wf = true) (h' : m'.wf = true) (hr : ∀ a, m.read a = m'.read a) :
    m = m' :=
  Memory.ext_risingFrom h h' hr

/-- The bytes of the bus after a write (20_memory.md R72). -/
theorem byteAt_memWrite (addr b : Word) (v : Byte) (s : State) :
    (memWrite addr v s).byteAt b = if b = addr then v else s.byteAt b := by
  simp [State.byteAt, memWrite, State.record, Memory.read_write, BitVec.toNat_inj]

@[simp] theorem byteAt_record (b : Word) (l : List BusAccess) (s : State) : (s.record l).byteAt b = s.byteAt b := rfl

theorem byteAt_push (b : Word) (v : Byte) (s : State) :
    (push v s).byteAt b = if b = stackAddress s.sp then v else s.byteAt b :=
  byteAt_memWrite (stackAddress s.sp) b v s

/-- The stack byte of SP `sp` is at `0x0100 + sp` (20_memory.md R77). -/
theorem stackAddress_toNat (sp : Byte) : (stackAddress sp).toNat = 0x0100 + sp.toNat := by
  have h : ∀ v : BitVec 8, (stackAddress v).toNat = 0x0100 + v.toNat := by decide
  exact h sp

theorem stackAddress_inj {a b : Byte} : stackAddress a = stackAddress b ↔ a = b := by
  rw [← BitVec.toNat_inj, stackAddress_toNat, stackAddress_toNat, ← BitVec.toNat_inj]
  omega

end Sys2Proof.Machine
end

