-- ==== Sys2Proof/Laws/State.lean ====
section
/-! SUPPORT. One lemma for each field of State after each named update, so that no proof unfolds a record update. -/

namespace Sys2Proof.Machine

/-! ### Reads -/

@[simp] theorem memRead_fst (addr : Word) (s : State) : (memRead addr s).1 = s.byteAt addr := rfl
@[simp] theorem memRead_snd (addr : Word) (s : State) : (memRead addr s).2 = s.record [.read addr] := rfl
@[simp] theorem fetchByte_fst (s : State) : (fetchByte s).1 = s.byteAt s.pc := rfl
@[simp] theorem pull_fst (s : State) : (pull s).1 = s.byteAt (stackAddress (s.sp + 1)) := rfl

/-! ### Fields after each update -/

/-! #### State.record -/

@[simp] theorem record_a (l : List BusAccess) (s : State) : (s.record l).a = s.a := rfl
@[simp] theorem record_x (l : List BusAccess) (s : State) : (s.record l).x = s.x := rfl
@[simp] theorem record_y (l : List BusAccess) (s : State) : (s.record l).y = s.y := rfl
@[simp] theorem record_sp (l : List BusAccess) (s : State) : (s.record l).sp = s.sp := rfl
@[simp] theorem record_pc (l : List BusAccess) (s : State) : (s.record l).pc = s.pc := rfl
@[simp] theorem record_p (l : List BusAccess) (s : State) : (s.record l).p = s.p := rfl
@[simp] theorem record_loopState (l : List BusAccess) (s : State) : (s.record l).loopState = s.loopState := rfl
@[simp] theorem record_fault (l : List BusAccess) (s : State) : (s.record l).fault = s.fault := rfl
@[simp] theorem record_nmiPending (l : List BusAccess) (s : State) : (s.record l).nmiPending = s.nmiPending := rfl
@[simp] theorem record_irqLine (l : List BusAccess) (s : State) : (s.record l).irqLine = s.irqLine := rfl
@[simp] theorem record_cycleTotal (l : List BusAccess) (s : State) : (s.record l).cycleTotal = s.cycleTotal := rfl
@[simp] theorem record_mem (l : List BusAccess) (s : State) : (s.record l).mem = s.mem := rfl
@[simp] theorem record_bus (l : List BusAccess) (s : State) : (s.record l).bus = s.bus ++ l := rfl
@[simp] theorem record_params (l : List BusAccess) (s : State) : (s.record l).params = s.params := rfl

/-! #### memWrite -/

@[simp] theorem memWrite_a (addr : Word) (v : Byte) (s : State) : (memWrite addr v s).a = s.a := rfl
@[simp] theorem memWrite_x (addr : Word) (v : Byte) (s : State) : (memWrite addr v s).x = s.x := rfl
@[simp] theorem memWrite_y (addr : Word) (v : Byte) (s : State) : (memWrite addr v s).y = s.y := rfl
@[simp] theorem memWrite_sp (addr : Word) (v : Byte) (s : State) : (memWrite addr v s).sp = s.sp := rfl
@[simp] theorem memWrite_pc (addr : Word) (v : Byte) (s : State) : (memWrite addr v s).pc = s.pc := rfl
@[simp] theorem memWrite_p (addr : Word) (v : Byte) (s : State) : (memWrite addr v s).p = s.p := rfl
@[simp] theorem memWrite_loopState (addr : Word) (v : Byte) (s : State) :
    (memWrite addr v s).loopState = s.loopState := rfl
@[simp] theorem memWrite_fault (addr : Word) (v : Byte) (s : State) : (memWrite addr v s).fault = s.fault := rfl
@[simp] theorem memWrite_nmiPending (addr : Word) (v : Byte) (s : State) :
    (memWrite addr v s).nmiPending = s.nmiPending := rfl
@[simp] theorem memWrite_irqLine (addr : Word) (v : Byte) (s : State) : (memWrite addr v s).irqLine = s.irqLine := rfl
@[simp] theorem memWrite_cycleTotal (addr : Word) (v : Byte) (s : State) :
    (memWrite addr v s).cycleTotal = s.cycleTotal := rfl
@[simp] theorem memWrite_mem (addr : Word) (v : Byte) (s : State) :
    (memWrite addr v s).mem = s.mem.write addr.toNat v := rfl
@[simp] theorem memWrite_bus (addr : Word) (v : Byte) (s : State) :
    (memWrite addr v s).bus = s.bus ++ [.write addr v] := rfl
@[simp] theorem memWrite_params (addr : Word) (v : Byte) (s : State) : (memWrite addr v s).params = s.params := rfl

/-! #### push -/

@[simp] theorem push_a (v : Byte) (s : State) : (push v s).a = s.a := rfl
@[simp] theorem push_x (v : Byte) (s : State) : (push v s).x = s.x := rfl
@[simp] theorem push_y (v : Byte) (s : State) : (push v s).y = s.y := rfl
@[simp] theorem push_sp (v : Byte) (s : State) : (push v s).sp = s.sp - 1 := rfl
@[simp] theorem push_pc (v : Byte) (s : State) : (push v s).pc = s.pc := rfl
@[simp] theorem push_p (v : Byte) (s : State) : (push v s).p = s.p := rfl
@[simp] theorem push_loopState (v : Byte) (s : State) : (push v s).loopState = s.loopState := rfl
@[simp] theorem push_fault (v : Byte) (s : State) : (push v s).fault = s.fault := rfl
@[simp] theorem push_nmiPending (v : Byte) (s : State) : (push v s).nmiPending = s.nmiPending := rfl
@[simp] theorem push_irqLine (v : Byte) (s : State) : (push v s).irqLine = s.irqLine := rfl
@[simp] theorem push_cycleTotal (v : Byte) (s : State) : (push v s).cycleTotal = s.cycleTotal := rfl
@[simp] theorem push_mem (v : Byte) (s : State) : (push v s).mem = s.mem.write (stackAddress s.sp).toNat v := rfl
@[simp] theorem push_bus (v : Byte) (s : State) : (push v s).bus = s.bus ++ [.write (stackAddress s.sp) v] := rfl
@[simp] theorem push_params (v : Byte) (s : State) : (push v s).params = s.params := rfl

/-! #### pull -/

@[simp] theorem pull_snd_a (s : State) : ((pull s).2).a = s.a := rfl
@[simp] theorem pull_snd_x (s : State) : ((pull s).2).x = s.x := rfl
@[simp] theorem pull_snd_y (s : State) : ((pull s).2).y = s.y := rfl
@[simp] theorem pull_snd_sp (s : State) : ((pull s).2).sp = s.sp + 1 := rfl
@[simp] theorem pull_snd_pc (s : State) : ((pull s).2).pc = s.pc := rfl
@[simp] theorem pull_snd_p (s : State) : ((pull s).2).p = s.p := rfl
@[simp] theorem pull_snd_loopState (s : State) : ((pull s).2).loopState = s.loopState := rfl
@[simp] theorem pull_snd_fault (s : State) : ((pull s).2).fault = s.fault := rfl
@[simp] theorem pull_snd_nmiPending (s : State) : ((pull s).2).nmiPending = s.nmiPending := rfl
@[simp] theorem pull_snd_irqLine (s : State) : ((pull s).2).irqLine = s.irqLine := rfl
@[simp] theorem pull_snd_cycleTotal (s : State) : ((pull s).2).cycleTotal = s.cycleTotal := rfl
@[simp] theorem pull_snd_mem (s : State) : ((pull s).2).mem = s.mem := rfl
@[simp] theorem pull_snd_bus (s : State) : ((pull s).2).bus = s.bus ++ [.read (stackAddress (s.sp + 1))] := rfl
@[simp] theorem pull_snd_params (s : State) : ((pull s).2).params = s.params := rfl

/-! #### fetchByte -/

@[simp] theorem fetchByte_snd_a (s : State) : ((fetchByte s).2).a = s.a := rfl
@[simp] theorem fetchByte_snd_x (s : State) : ((fetchByte s).2).x = s.x := rfl
@[simp] theorem fetchByte_snd_y (s : State) : ((fetchByte s).2).y = s.y := rfl
@[simp] theorem fetchByte_snd_sp (s : State) : ((fetchByte s).2).sp = s.sp := rfl
@[simp] theorem fetchByte_snd_pc (s : State) : ((fetchByte s).2).pc = s.pc + 1 := rfl
@[simp] theorem fetchByte_snd_p (s : State) : ((fetchByte s).2).p = s.p := rfl
@[simp] theorem fetchByte_snd_loopState (s : State) : ((fetchByte s).2).loopState = s.loopState := rfl
@[simp] theorem fetchByte_snd_fault (s : State) : ((fetchByte s).2).fault = s.fault := rfl
@[simp] theorem fetchByte_snd_nmiPending (s : State) : ((fetchByte s).2).nmiPending = s.nmiPending := rfl
@[simp] theorem fetchByte_snd_irqLine (s : State) : ((fetchByte s).2).irqLine = s.irqLine := rfl
@[simp] theorem fetchByte_snd_cycleTotal (s : State) : ((fetchByte s).2).cycleTotal = s.cycleTotal := rfl
@[simp] theorem fetchByte_snd_mem (s : State) : ((fetchByte s).2).mem = s.mem := rfl
@[simp] theorem fetchByte_snd_bus (s : State) : ((fetchByte s).2).bus = s.bus ++ [.read s.pc] := rfl
@[simp] theorem fetchByte_snd_params (s : State) : ((fetchByte s).2).params = s.params := rfl

/-! #### setNZ -/

@[simp] theorem setNZ_a (v : Byte) (s : State) : (setNZ v s).a = s.a := rfl
@[simp] theorem setNZ_x (v : Byte) (s : State) : (setNZ v s).x = s.x := rfl
@[simp] theorem setNZ_y (v : Byte) (s : State) : (setNZ v s).y = s.y := rfl
@[simp] theorem setNZ_sp (v : Byte) (s : State) : (setNZ v s).sp = s.sp := rfl
@[simp] theorem setNZ_pc (v : Byte) (s : State) : (setNZ v s).pc = s.pc := rfl
@[simp] theorem setNZ_p (v : Byte) (s : State) : (setNZ v s).p = s.p.setNZ v := rfl
@[simp] theorem setNZ_loopState (v : Byte) (s : State) : (setNZ v s).loopState = s.loopState := rfl
@[simp] theorem setNZ_fault (v : Byte) (s : State) : (setNZ v s).fault = s.fault := rfl
@[simp] theorem setNZ_nmiPending (v : Byte) (s : State) : (setNZ v s).nmiPending = s.nmiPending := rfl
@[simp] theorem setNZ_irqLine (v : Byte) (s : State) : (setNZ v s).irqLine = s.irqLine := rfl
@[simp] theorem setNZ_cycleTotal (v : Byte) (s : State) : (setNZ v s).cycleTotal = s.cycleTotal := rfl
@[simp] theorem setNZ_mem (v : Byte) (s : State) : (setNZ v s).mem = s.mem := rfl
@[simp] theorem setNZ_bus (v : Byte) (s : State) : (setNZ v s).bus = s.bus := rfl
@[simp] theorem setNZ_params (v : Byte) (s : State) : (setNZ v s).params = s.params := rfl

/-! #### charge -/

@[simp] theorem charge_a (n : Nat) (s : State) : (charge n s).a = s.a := rfl
@[simp] theorem charge_x (n : Nat) (s : State) : (charge n s).x = s.x := rfl
@[simp] theorem charge_y (n : Nat) (s : State) : (charge n s).y = s.y := rfl
@[simp] theorem charge_sp (n : Nat) (s : State) : (charge n s).sp = s.sp := rfl
@[simp] theorem charge_pc (n : Nat) (s : State) : (charge n s).pc = s.pc := rfl
@[simp] theorem charge_p (n : Nat) (s : State) : (charge n s).p = s.p := rfl
@[simp] theorem charge_loopState (n : Nat) (s : State) : (charge n s).loopState = s.loopState := rfl
@[simp] theorem charge_fault (n : Nat) (s : State) : (charge n s).fault = s.fault := rfl
@[simp] theorem charge_nmiPending (n : Nat) (s : State) : (charge n s).nmiPending = s.nmiPending := rfl
@[simp] theorem charge_irqLine (n : Nat) (s : State) : (charge n s).irqLine = s.irqLine := rfl
@[simp] theorem charge_cycleTotal (n : Nat) (s : State) :
    (charge n s).cycleTotal = s.cycleTotal + BitVec.ofNat 64 n := rfl
@[simp] theorem charge_mem (n : Nat) (s : State) : (charge n s).mem = s.mem := rfl
@[simp] theorem charge_bus (n : Nat) (s : State) : (charge n s).bus = s.bus := rfl
@[simp] theorem charge_params (n : Nat) (s : State) : (charge n s).params = s.params := rfl

/-! #### beginStep -/

@[simp] theorem beginStep_a (s : State) : (beginStep s).a = s.a := rfl
@[simp] theorem beginStep_x (s : State) : (beginStep s).x = s.x := rfl
@[simp] theorem beginStep_y (s : State) : (beginStep s).y = s.y := rfl
@[simp] theorem beginStep_sp (s : State) : (beginStep s).sp = s.sp := rfl
@[simp] theorem beginStep_pc (s : State) : (beginStep s).pc = s.pc := rfl
@[simp] theorem beginStep_p (s : State) : (beginStep s).p = s.p := rfl
@[simp] theorem beginStep_loopState (s : State) : (beginStep s).loopState = s.loopState := rfl
@[simp] theorem beginStep_fault (s : State) : (beginStep s).fault = s.fault := rfl
@[simp] theorem beginStep_nmiPending (s : State) : (beginStep s).nmiPending = s.nmiPending := rfl
@[simp] theorem beginStep_irqLine (s : State) : (beginStep s).irqLine = s.irqLine := rfl
@[simp] theorem beginStep_cycleTotal (s : State) : (beginStep s).cycleTotal = s.cycleTotal := rfl
@[simp] theorem beginStep_mem (s : State) : (beginStep s).mem = s.mem := rfl
@[simp] theorem beginStep_bus (s : State) : (beginStep s).bus = [] := rfl
@[simp] theorem beginStep_params (s : State) : (beginStep s).params = s.params := rfl

/-! #### raiseDecodeFault -/

@[simp] theorem raiseDecodeFault_a (op : Byte) (at_ : Word) (s : State) : (raiseDecodeFault op at_ s).a = s.a := rfl
@[simp] theorem raiseDecodeFault_x (op : Byte) (at_ : Word) (s : State) : (raiseDecodeFault op at_ s).x = s.x := rfl
@[simp] theorem raiseDecodeFault_y (op : Byte) (at_ : Word) (s : State) : (raiseDecodeFault op at_ s).y = s.y := rfl
@[simp] theorem raiseDecodeFault_sp (op : Byte) (at_ : Word) (s : State) : (raiseDecodeFault op at_ s).sp = s.sp := rfl
@[simp] theorem raiseDecodeFault_pc (op : Byte) (at_ : Word) (s : State) : (raiseDecodeFault op at_ s).pc = s.pc := rfl
@[simp] theorem raiseDecodeFault_p (op : Byte) (at_ : Word) (s : State) : (raiseDecodeFault op at_ s).p = s.p := rfl
@[simp] theorem raiseDecodeFault_loopState (op : Byte) (at_ : Word) (s : State) :
    (raiseDecodeFault op at_ s).loopState = .halted := rfl
@[simp] theorem raiseDecodeFault_fault (op : Byte) (at_ : Word) (s : State) :
    (raiseDecodeFault op at_ s).fault = some ⟨op, at_⟩ := rfl
@[simp] theorem raiseDecodeFault_nmiPending (op : Byte) (at_ : Word) (s : State) :
    (raiseDecodeFault op at_ s).nmiPending = s.nmiPending := rfl
@[simp] theorem raiseDecodeFault_irqLine (op : Byte) (at_ : Word) (s : State) :
    (raiseDecodeFault op at_ s).irqLine = s.irqLine := rfl
@[simp] theorem raiseDecodeFault_cycleTotal (op : Byte) (at_ : Word) (s : State) :
    (raiseDecodeFault op at_ s).cycleTotal = s.cycleTotal := rfl
@[simp] theorem raiseDecodeFault_mem (op : Byte) (at_ : Word) (s : State) :
    (raiseDecodeFault op at_ s).mem = s.mem := rfl
@[simp] theorem raiseDecodeFault_bus (op : Byte) (at_ : Word) (s : State) :
    (raiseDecodeFault op at_ s).bus = s.bus := rfl
@[simp] theorem raiseDecodeFault_params (op : Byte) (at_ : Word) (s : State) :
    (raiseDecodeFault op at_ s).params = s.params := rfl

/-! #### poke -/

@[simp] theorem poke_a (addr : Word) (v : Byte) (s : State) : (poke addr v s).a = s.a := rfl
@[simp] theorem poke_x (addr : Word) (v : Byte) (s : State) : (poke addr v s).x = s.x := rfl
@[simp] theorem poke_y (addr : Word) (v : Byte) (s : State) : (poke addr v s).y = s.y := rfl
@[simp] theorem poke_sp (addr : Word) (v : Byte) (s : State) : (poke addr v s).sp = s.sp := rfl
@[simp] theorem poke_pc (addr : Word) (v : Byte) (s : State) : (poke addr v s).pc = s.pc := rfl
@[simp] theorem poke_p (addr : Word) (v : Byte) (s : State) : (poke addr v s).p = s.p := rfl
@[simp] theorem poke_loopState (addr : Word) (v : Byte) (s : State) : (poke addr v s).loopState = s.loopState := rfl
@[simp] theorem poke_fault (addr : Word) (v : Byte) (s : State) : (poke addr v s).fault = s.fault := rfl
@[simp] theorem poke_nmiPending (addr : Word) (v : Byte) (s : State) : (poke addr v s).nmiPending = s.nmiPending := rfl
@[simp] theorem poke_irqLine (addr : Word) (v : Byte) (s : State) : (poke addr v s).irqLine = s.irqLine := rfl
@[simp] theorem poke_cycleTotal (addr : Word) (v : Byte) (s : State) : (poke addr v s).cycleTotal = s.cycleTotal := rfl
@[simp] theorem poke_mem (addr : Word) (v : Byte) (s : State) : (poke addr v s).mem = s.mem.write addr.toNat v := rfl
@[simp] theorem poke_bus (addr : Word) (v : Byte) (s : State) : (poke addr v s).bus = s.bus := rfl
@[simp] theorem poke_params (addr : Word) (v : Byte) (s : State) : (poke addr v s).params = s.params := rfl

/-! #### load -/

@[simp] theorem load_a (origin : Word) (l : List Byte) (s : State) : (load origin l s).a = s.a := rfl
@[simp] theorem load_x (origin : Word) (l : List Byte) (s : State) : (load origin l s).x = s.x := rfl
@[simp] theorem load_y (origin : Word) (l : List Byte) (s : State) : (load origin l s).y = s.y := rfl
@[simp] theorem load_sp (origin : Word) (l : List Byte) (s : State) : (load origin l s).sp = s.sp := rfl
@[simp] theorem load_pc (origin : Word) (l : List Byte) (s : State) : (load origin l s).pc = s.pc := rfl
@[simp] theorem load_p (origin : Word) (l : List Byte) (s : State) : (load origin l s).p = s.p := rfl
@[simp] theorem load_loopState (origin : Word) (l : List Byte) (s : State) :
    (load origin l s).loopState = s.loopState := rfl
@[simp] theorem load_fault (origin : Word) (l : List Byte) (s : State) : (load origin l s).fault = s.fault := rfl
@[simp] theorem load_nmiPending (origin : Word) (l : List Byte) (s : State) :
    (load origin l s).nmiPending = s.nmiPending := rfl
@[simp] theorem load_irqLine (origin : Word) (l : List Byte) (s : State) : (load origin l s).irqLine = s.irqLine := rfl
@[simp] theorem load_cycleTotal (origin : Word) (l : List Byte) (s : State) :
    (load origin l s).cycleTotal = s.cycleTotal := rfl
@[simp] theorem load_mem (origin : Word) (l : List Byte) (s : State) :
    (load origin l s).mem = storeBytes l origin s.mem := rfl
@[simp] theorem load_bus (origin : Word) (l : List Byte) (s : State) : (load origin l s).bus = s.bus := rfl
@[simp] theorem load_params (origin : Word) (l : List Byte) (s : State) : (load origin l s).params = s.params := rfl

/-! #### setIrq -/

@[simp] theorem setIrq_a (level : Bool) (s : State) : (setIrq level s).a = s.a := rfl
@[simp] theorem setIrq_x (level : Bool) (s : State) : (setIrq level s).x = s.x := rfl
@[simp] theorem setIrq_y (level : Bool) (s : State) : (setIrq level s).y = s.y := rfl
@[simp] theorem setIrq_sp (level : Bool) (s : State) : (setIrq level s).sp = s.sp := rfl
@[simp] theorem setIrq_pc (level : Bool) (s : State) : (setIrq level s).pc = s.pc := rfl
@[simp] theorem setIrq_p (level : Bool) (s : State) : (setIrq level s).p = s.p := rfl
@[simp] theorem setIrq_loopState (level : Bool) (s : State) : (setIrq level s).loopState = s.loopState := rfl
@[simp] theorem setIrq_fault (level : Bool) (s : State) : (setIrq level s).fault = s.fault := rfl
@[simp] theorem setIrq_nmiPending (level : Bool) (s : State) : (setIrq level s).nmiPending = s.nmiPending := rfl
@[simp] theorem setIrq_irqLine (level : Bool) (s : State) : (setIrq level s).irqLine = level := rfl
@[simp] theorem setIrq_cycleTotal (level : Bool) (s : State) : (setIrq level s).cycleTotal = s.cycleTotal := rfl
@[simp] theorem setIrq_mem (level : Bool) (s : State) : (setIrq level s).mem = s.mem := rfl
@[simp] theorem setIrq_bus (level : Bool) (s : State) : (setIrq level s).bus = s.bus := rfl
@[simp] theorem setIrq_params (level : Bool) (s : State) : (setIrq level s).params = s.params := rfl

/-! #### signalNmi -/

@[simp] theorem signalNmi_a (s : State) : (signalNmi s).a = s.a := rfl
@[simp] theorem signalNmi_x (s : State) : (signalNmi s).x = s.x := rfl
@[simp] theorem signalNmi_y (s : State) : (signalNmi s).y = s.y := rfl
@[simp] theorem signalNmi_sp (s : State) : (signalNmi s).sp = s.sp := rfl
@[simp] theorem signalNmi_pc (s : State) : (signalNmi s).pc = s.pc := rfl
@[simp] theorem signalNmi_p (s : State) : (signalNmi s).p = s.p := rfl
@[simp] theorem signalNmi_loopState (s : State) : (signalNmi s).loopState = s.loopState := rfl
@[simp] theorem signalNmi_fault (s : State) : (signalNmi s).fault = s.fault := rfl
@[simp] theorem signalNmi_nmiPending (s : State) : (signalNmi s).nmiPending = true := rfl
@[simp] theorem signalNmi_irqLine (s : State) : (signalNmi s).irqLine = s.irqLine := rfl
@[simp] theorem signalNmi_cycleTotal (s : State) : (signalNmi s).cycleTotal = s.cycleTotal := rfl
@[simp] theorem signalNmi_mem (s : State) : (signalNmi s).mem = s.mem := rfl
@[simp] theorem signalNmi_bus (s : State) : (signalNmi s).bus = s.bus := rfl
@[simp] theorem signalNmi_params (s : State) : (signalNmi s).params = s.params := rfl

/-! ### The flags after each update of the status register -/

@[simp] theorem setNZ_flag_c (p : Status) (v : Byte) : (p.setNZ v).c = p.c := rfl
@[simp] theorem setNZ_flag_z (p : Status) (v : Byte) : (p.setNZ v).z = decide (v = 0) := rfl
@[simp] theorem setNZ_flag_i (p : Status) (v : Byte) : (p.setNZ v).i = p.i := rfl
@[simp] theorem setNZ_flag_d (p : Status) (v : Byte) : (p.setNZ v).d = p.d := rfl
@[simp] theorem setNZ_flag_b (p : Status) (v : Byte) : (p.setNZ v).b = p.b := rfl
@[simp] theorem setNZ_flag_v (p : Status) (v : Byte) : (p.setNZ v).v = p.v := rfl
@[simp] theorem setNZ_flag_n (p : Status) (v : Byte) : (p.setNZ v).n = v.getLsbD 7 := rfl

@[simp] theorem setSum_flag_c (p : Status) (s : Sum) : (p.setSum s).c = s.carry := rfl
@[simp] theorem setSum_flag_z (p : Status) (s : Sum) : (p.setSum s).z = decide (s.r = 0) := rfl
@[simp] theorem setSum_flag_i (p : Status) (s : Sum) : (p.setSum s).i = p.i := rfl
@[simp] theorem setSum_flag_d (p : Status) (s : Sum) : (p.setSum s).d = p.d := rfl
@[simp] theorem setSum_flag_b (p : Status) (s : Sum) : (p.setSum s).b = p.b := rfl
@[simp] theorem setSum_flag_v (p : Status) (s : Sum) : (p.setSum s).v = s.overflow := rfl
@[simp] theorem setSum_flag_n (p : Status) (s : Sum) : (p.setSum s).n = s.r.getLsbD 7 := rfl

@[simp] theorem setShift_flag_c (p : Status) (r : Byte × Bool) : (p.setShift r).c = r.2 := rfl
@[simp] theorem setShift_flag_z (p : Status) (r : Byte × Bool) : (p.setShift r).z = decide (r.1 = 0) := rfl
@[simp] theorem setShift_flag_i (p : Status) (r : Byte × Bool) : (p.setShift r).i = p.i := rfl
@[simp] theorem setShift_flag_d (p : Status) (r : Byte × Bool) : (p.setShift r).d = p.d := rfl
@[simp] theorem setShift_flag_b (p : Status) (r : Byte × Bool) : (p.setShift r).b = p.b := rfl
@[simp] theorem setShift_flag_v (p : Status) (r : Byte × Bool) : (p.setShift r).v = p.v := rfl
@[simp] theorem setShift_flag_n (p : Status) (r : Byte × Bool) : (p.setShift r).n = r.1.getLsbD 7 := rfl

@[simp] theorem compare_flag_c (p : Status) (r m : Byte) : (p.compare r m).c = decide (m.toNat ≤ r.toNat) := rfl
@[simp] theorem compare_flag_z (p : Status) (r m : Byte) : (p.compare r m).z = decide (r = m) := rfl
@[simp] theorem compare_flag_i (p : Status) (r m : Byte) : (p.compare r m).i = p.i := rfl
@[simp] theorem compare_flag_d (p : Status) (r m : Byte) : (p.compare r m).d = p.d := rfl
@[simp] theorem compare_flag_b (p : Status) (r m : Byte) : (p.compare r m).b = p.b := rfl
@[simp] theorem compare_flag_v (p : Status) (r m : Byte) : (p.compare r m).v = p.v := rfl
@[simp] theorem compare_flag_n (p : Status) (r m : Byte) : (p.compare r m).n = (r - m).getLsbD 7 := rfl

end Sys2Proof.Machine
end

