-- ==== Sys2Proof/Laws/Operands.lean ====
section
/-! SUPPORT. The resolvers as the pseudocode of 40_addressing_modes.md writes them, and one lemma for each instruction
shape that says the whole of what it answers. -/

namespace Sys2Proof.Machine

/-! ### Resolvers, read by read -/

/-- The Indirect resolver makes its two pointer reads in order (40_addressing_modes.md R139). -/
theorem resolve_indirect (p : Word) (s : State) :
    resolve (.indirect p) s =
      (let (lo, s1) := memRead p s
       let (hi, s2) := memRead (joinBytes (highByte p) (lowByte p + 1)) s1
       ⟨joinBytes hi lo, false, s2⟩) := by
  simp [resolve, effectiveAddress, pageCrossed, pointerReads, memRead, State.record, State.byteAt, indirectHighAddress]

/-- The Indexed Indirect (X) resolver makes its two pointer reads in order (40_addressing_modes.md R140). -/
theorem resolve_indexedIndirectX (z : Byte) (s : State) :
    resolve (.indexedIndirectX z) s =
      (let p := z + s.x
       let (lo, s1) := memRead (joinBytes 0 p) s
       let (hi, s2) := memRead (joinBytes 0 (p + 1)) s1
       ⟨joinBytes hi lo, false, s2⟩) := by
  simp [resolve, effectiveAddress, pageCrossed, pointerReads, memRead, State.record, State.byteAt, zeroPagePointer,
    zeroPageAddress]

/-- The Indirect Indexed (Y) resolver makes its two pointer reads in order (40_addressing_modes.md R141). -/
theorem resolve_indirectIndexedY (z : Byte) (s : State) :
    resolve (.indirectIndexedY z) s =
      (let (lo, s1) := memRead (joinBytes 0 z) s
       let (hi, s2) := memRead (joinBytes 0 (z + 1)) s1
       let base := joinBytes hi lo
       ⟨base + zeroExtend s.y, highByte (base + zeroExtend s.y) != highByte base, s2⟩) := by
  simp [resolve, effectiveAddress, pageCrossed, pointerReads, memRead, State.record, State.byteAt, zeroPagePointer,
    zeroPageAddress]

/-! ### Recording -/

@[simp] theorem record_record (s : State) (l l' : List BusAccess) : (s.record l).record l' = s.record (l ++ l') := by
  simp [State.record]

@[simp] theorem record_nil (s : State) : s.record [] = s := by simp [State.record]

/-- Two reads of a 16-bit value, the low byte first (20_memory.md R74). -/
theorem memRead16_eq (addr : Word) (s : State) :
    memRead16 addr s = (joinBytes (s.byteAt (addr + 1)) (s.byteAt addr), s.record [.read addr, .read (addr + 1)]) := by
  simp [memRead16, memRead, State.record, State.byteAt]

/-! ### The shapes of the instructions -/

/-- Resolving a mode and reading its value gives the operand value and records the operand's transactions. -/
theorem readOperand_resolve (o : Operand) (s : State) :
    readOperand o (resolve o s) = (operandValue o s, s.record (operandAccesses o s)) := by
  cases o <;> simp [readOperand, resolve, operandValue, operandAccesses, pointerReads, memRead, State.record,
    State.byteAt]

/-- A reading instruction, whole. -/
theorem readForm_eq (o : Operand) (base : Nat) (cls : PenaltyClass) (handler : Byte → State → State) (s : State) :
    readForm o base cls handler s =
      .next (charge (base + pagePenalty cls (pageCrossed o s) s.params)
        (handler (operandValue o s) (s.record (operandAccesses o s)))) := by
  simp only [readForm, readOperand_resolve]
  rfl

/-- A storing instruction, whole. -/
theorem storeForm_eq (o : Operand) (base : Nat) (cls : PenaltyClass) (value : State → Byte) (s : State) :
    storeForm o base cls value s =
      .next (charge (base + pagePenalty cls (pageCrossed o s) s.params)
        (memWrite (effectiveAddress o s) (value (s.record (pointerReads o s))) (s.record (pointerReads o s)))) := rfl

/-- A read-modify-write instruction, whole. -/
theorem modifyForm_eq (o : Operand) (base : Nat) (cls : PenaltyClass) (f : Byte → Status → Byte × Status) (s : State) :
    modifyForm o base cls f s =
      .next (charge (base + pagePenalty cls (pageCrossed o s) s.params)
        { memWrite (effectiveAddress o s) (f (s.byteAt (effectiveAddress o s)) s.p).1
            (s.record (pointerReads o s ++ [.read (effectiveAddress o s)])) with
          p := (f (s.byteAt (effectiveAddress o s)) s.p).2 }) := by
  simp [modifyForm, resolve, memRead, State.record, State.byteAt, memWrite]

/-- A branch, whole. -/
theorem branchForm_eq (o : Byte) (cond : Bool) (s : State) :
    branchForm o cond s =
      .next (if cond then
          charge (3 + if page (s.pc + signExtend o) != page s.pc then 1 else 0) { s with pc := s.pc + signExtend o }
        else charge 2 s) := by
  cases cond <;> simp [branchForm, resolve, effectiveAddress, pointerReads, State.record]

/-- The entry of an exception, whole: PC from the vector bytes the pushes left. -/
theorem takeException_eq (ret : Word) (b : Bool) (vector : Word) (s : State) :
    takeException ret b vector s =
      { push (s.p.pushed b) (push16 ret s) with
        p := { s.p with i := true }
        pc := joinBytes ((push (s.p.pushed b) (push16 ret s)).byteAt (vector + 1))
          ((push (s.p.pushed b) (push16 ret s)).byteAt vector)
        bus := (push (s.p.pushed b) (push16 ret s)).bus ++ [.read vector, .read (vector + 1)] } := by
  simp only [takeException, memRead16_eq]
  rfl

/-- The return from an exception, whole: the status byte, then PC, low byte first. -/
theorem returnFromException_eq (s : State) :
    returnFromException s =
      { s with
        p := Status.load (s.byteAt (stackAddress (s.sp + 1)))
        pc := joinBytes (s.byteAt (stackAddress (s.sp + 3))) (s.byteAt (stackAddress (s.sp + 2)))
        sp := s.sp + 3
        bus := s.bus ++ [.read (stackAddress (s.sp + 1)), .read (stackAddress (s.sp + 2)),
          .read (stackAddress (s.sp + 3))] } := by
  simp [returnFromException, pull16, pull, memRead, State.record, State.byteAt, BitVec.add_assoc]

/-- A status byte pushed and loaded again gives the flags back, with Break clear (10_state.md R47, R48). -/
theorem load_pushed (p : Status) (b : Bool) : Status.load (p.pushed b) = { p with b := false } := by
  obtain ⟨c, z, i, d, b', v, n⟩ := p
  simp only [Status.pushed, Status.byteWith, Status.load]
  revert c z i d v n b
  decide

end Sys2Proof.Machine
end

