-- ==== Sys2Proof/Laws/PerInstr.lean ====
section
/-! SUPPORT. Statements about every instruction as syntax, one lemma for each constructor. -/

namespace Sys2Proof.Laws

/-- An instruction is well formed, and its encoding has `1 + width(mode)` bytes (30_encoding.md R100, R107). -/
def EncodedLength.Statement (i : Instr) : Prop := i.wellFormed = true ∧ (encode i).length = i.length

theorem EncodedLength.ldaImmediate (v : Byte) : EncodedLength.Statement (.ldaImmediate v) := ⟨rfl, rfl⟩
theorem EncodedLength.ldaZeroPage (z : Byte) : EncodedLength.Statement (.ldaZeroPage z) := ⟨rfl, rfl⟩
theorem EncodedLength.ldaZeroPageX (z : Byte) : EncodedLength.Statement (.ldaZeroPageX z) := ⟨rfl, rfl⟩
theorem EncodedLength.ldaAbsolute (a : Word) : EncodedLength.Statement (.ldaAbsolute a) := ⟨rfl, rfl⟩
theorem EncodedLength.ldaAbsoluteX (a : Word) : EncodedLength.Statement (.ldaAbsoluteX a) := ⟨rfl, rfl⟩
theorem EncodedLength.ldaAbsoluteY (a : Word) : EncodedLength.Statement (.ldaAbsoluteY a) := ⟨rfl, rfl⟩
theorem EncodedLength.ldaIndexedIndirectX (z : Byte) : EncodedLength.Statement (.ldaIndexedIndirectX z) := ⟨rfl, rfl⟩
theorem EncodedLength.ldaIndirectIndexedY (z : Byte) : EncodedLength.Statement (.ldaIndirectIndexedY z) := ⟨rfl, rfl⟩
theorem EncodedLength.ldxImmediate (v : Byte) : EncodedLength.Statement (.ldxImmediate v) := ⟨rfl, rfl⟩
theorem EncodedLength.ldxZeroPage (z : Byte) : EncodedLength.Statement (.ldxZeroPage z) := ⟨rfl, rfl⟩
theorem EncodedLength.ldxZeroPageY (z : Byte) : EncodedLength.Statement (.ldxZeroPageY z) := ⟨rfl, rfl⟩
theorem EncodedLength.ldxAbsolute (a : Word) : EncodedLength.Statement (.ldxAbsolute a) := ⟨rfl, rfl⟩
theorem EncodedLength.ldxAbsoluteY (a : Word) : EncodedLength.Statement (.ldxAbsoluteY a) := ⟨rfl, rfl⟩
theorem EncodedLength.ldyImmediate (v : Byte) : EncodedLength.Statement (.ldyImmediate v) := ⟨rfl, rfl⟩
theorem EncodedLength.ldyZeroPage (z : Byte) : EncodedLength.Statement (.ldyZeroPage z) := ⟨rfl, rfl⟩
theorem EncodedLength.ldyZeroPageX (z : Byte) : EncodedLength.Statement (.ldyZeroPageX z) := ⟨rfl, rfl⟩
theorem EncodedLength.ldyAbsolute (a : Word) : EncodedLength.Statement (.ldyAbsolute a) := ⟨rfl, rfl⟩
theorem EncodedLength.ldyAbsoluteX (a : Word) : EncodedLength.Statement (.ldyAbsoluteX a) := ⟨rfl, rfl⟩
theorem EncodedLength.staZeroPage (z : Byte) : EncodedLength.Statement (.staZeroPage z) := ⟨rfl, rfl⟩
theorem EncodedLength.staZeroPageX (z : Byte) : EncodedLength.Statement (.staZeroPageX z) := ⟨rfl, rfl⟩
theorem EncodedLength.staAbsolute (a : Word) : EncodedLength.Statement (.staAbsolute a) := ⟨rfl, rfl⟩
theorem EncodedLength.staAbsoluteX (a : Word) : EncodedLength.Statement (.staAbsoluteX a) := ⟨rfl, rfl⟩
theorem EncodedLength.staAbsoluteY (a : Word) : EncodedLength.Statement (.staAbsoluteY a) := ⟨rfl, rfl⟩
theorem EncodedLength.staIndexedIndirectX (z : Byte) : EncodedLength.Statement (.staIndexedIndirectX z) := ⟨rfl, rfl⟩
theorem EncodedLength.staIndirectIndexedY (z : Byte) : EncodedLength.Statement (.staIndirectIndexedY z) := ⟨rfl, rfl⟩
theorem EncodedLength.stxZeroPage (z : Byte) : EncodedLength.Statement (.stxZeroPage z) := ⟨rfl, rfl⟩
theorem EncodedLength.stxZeroPageY (z : Byte) : EncodedLength.Statement (.stxZeroPageY z) := ⟨rfl, rfl⟩
theorem EncodedLength.stxAbsolute (a : Word) : EncodedLength.Statement (.stxAbsolute a) := ⟨rfl, rfl⟩
theorem EncodedLength.styZeroPage (z : Byte) : EncodedLength.Statement (.styZeroPage z) := ⟨rfl, rfl⟩
theorem EncodedLength.styZeroPageX (z : Byte) : EncodedLength.Statement (.styZeroPageX z) := ⟨rfl, rfl⟩
theorem EncodedLength.styAbsolute (a : Word) : EncodedLength.Statement (.styAbsolute a) := ⟨rfl, rfl⟩
theorem EncodedLength.adcImmediate (v : Byte) : EncodedLength.Statement (.adcImmediate v) := ⟨rfl, rfl⟩
theorem EncodedLength.adcZeroPage (z : Byte) : EncodedLength.Statement (.adcZeroPage z) := ⟨rfl, rfl⟩
theorem EncodedLength.adcZeroPageX (z : Byte) : EncodedLength.Statement (.adcZeroPageX z) := ⟨rfl, rfl⟩
theorem EncodedLength.adcAbsolute (a : Word) : EncodedLength.Statement (.adcAbsolute a) := ⟨rfl, rfl⟩
theorem EncodedLength.adcAbsoluteX (a : Word) : EncodedLength.Statement (.adcAbsoluteX a) := ⟨rfl, rfl⟩
theorem EncodedLength.adcAbsoluteY (a : Word) : EncodedLength.Statement (.adcAbsoluteY a) := ⟨rfl, rfl⟩
theorem EncodedLength.adcIndexedIndirectX (z : Byte) : EncodedLength.Statement (.adcIndexedIndirectX z) := ⟨rfl, rfl⟩
theorem EncodedLength.adcIndirectIndexedY (z : Byte) : EncodedLength.Statement (.adcIndirectIndexedY z) := ⟨rfl, rfl⟩
theorem EncodedLength.sbcImmediate (v : Byte) : EncodedLength.Statement (.sbcImmediate v) := ⟨rfl, rfl⟩
theorem EncodedLength.sbcZeroPage (z : Byte) : EncodedLength.Statement (.sbcZeroPage z) := ⟨rfl, rfl⟩
theorem EncodedLength.sbcZeroPageX (z : Byte) : EncodedLength.Statement (.sbcZeroPageX z) := ⟨rfl, rfl⟩
theorem EncodedLength.sbcAbsolute (a : Word) : EncodedLength.Statement (.sbcAbsolute a) := ⟨rfl, rfl⟩
theorem EncodedLength.sbcAbsoluteX (a : Word) : EncodedLength.Statement (.sbcAbsoluteX a) := ⟨rfl, rfl⟩
theorem EncodedLength.sbcAbsoluteY (a : Word) : EncodedLength.Statement (.sbcAbsoluteY a) := ⟨rfl, rfl⟩
theorem EncodedLength.sbcIndexedIndirectX (z : Byte) : EncodedLength.Statement (.sbcIndexedIndirectX z) := ⟨rfl, rfl⟩
theorem EncodedLength.sbcIndirectIndexedY (z : Byte) : EncodedLength.Statement (.sbcIndirectIndexedY z) := ⟨rfl, rfl⟩
theorem EncodedLength.cmpImmediate (v : Byte) : EncodedLength.Statement (.cmpImmediate v) := ⟨rfl, rfl⟩
theorem EncodedLength.cmpZeroPage (z : Byte) : EncodedLength.Statement (.cmpZeroPage z) := ⟨rfl, rfl⟩
theorem EncodedLength.cmpZeroPageX (z : Byte) : EncodedLength.Statement (.cmpZeroPageX z) := ⟨rfl, rfl⟩
theorem EncodedLength.cmpAbsolute (a : Word) : EncodedLength.Statement (.cmpAbsolute a) := ⟨rfl, rfl⟩
theorem EncodedLength.cmpAbsoluteX (a : Word) : EncodedLength.Statement (.cmpAbsoluteX a) := ⟨rfl, rfl⟩
theorem EncodedLength.cmpAbsoluteY (a : Word) : EncodedLength.Statement (.cmpAbsoluteY a) := ⟨rfl, rfl⟩
theorem EncodedLength.cmpIndexedIndirectX (z : Byte) : EncodedLength.Statement (.cmpIndexedIndirectX z) := ⟨rfl, rfl⟩
theorem EncodedLength.cmpIndirectIndexedY (z : Byte) : EncodedLength.Statement (.cmpIndirectIndexedY z) := ⟨rfl, rfl⟩
theorem EncodedLength.cpxImmediate (v : Byte) : EncodedLength.Statement (.cpxImmediate v) := ⟨rfl, rfl⟩
theorem EncodedLength.cpxZeroPage (z : Byte) : EncodedLength.Statement (.cpxZeroPage z) := ⟨rfl, rfl⟩
theorem EncodedLength.cpxAbsolute (a : Word) : EncodedLength.Statement (.cpxAbsolute a) := ⟨rfl, rfl⟩
theorem EncodedLength.cpyImmediate (v : Byte) : EncodedLength.Statement (.cpyImmediate v) := ⟨rfl, rfl⟩
theorem EncodedLength.cpyZeroPage (z : Byte) : EncodedLength.Statement (.cpyZeroPage z) := ⟨rfl, rfl⟩
theorem EncodedLength.cpyAbsolute (a : Word) : EncodedLength.Statement (.cpyAbsolute a) := ⟨rfl, rfl⟩
theorem EncodedLength.incZeroPage (z : Byte) : EncodedLength.Statement (.incZeroPage z) := ⟨rfl, rfl⟩
theorem EncodedLength.incZeroPageX (z : Byte) : EncodedLength.Statement (.incZeroPageX z) := ⟨rfl, rfl⟩
theorem EncodedLength.incAbsolute (a : Word) : EncodedLength.Statement (.incAbsolute a) := ⟨rfl, rfl⟩
theorem EncodedLength.incAbsoluteX (a : Word) : EncodedLength.Statement (.incAbsoluteX a) := ⟨rfl, rfl⟩
theorem EncodedLength.decZeroPage (z : Byte) : EncodedLength.Statement (.decZeroPage z) := ⟨rfl, rfl⟩
theorem EncodedLength.decZeroPageX (z : Byte) : EncodedLength.Statement (.decZeroPageX z) := ⟨rfl, rfl⟩
theorem EncodedLength.decAbsolute (a : Word) : EncodedLength.Statement (.decAbsolute a) := ⟨rfl, rfl⟩
theorem EncodedLength.decAbsoluteX (a : Word) : EncodedLength.Statement (.decAbsoluteX a) := ⟨rfl, rfl⟩
theorem EncodedLength.inx : EncodedLength.Statement (.inx) := ⟨rfl, rfl⟩
theorem EncodedLength.iny : EncodedLength.Statement (.iny) := ⟨rfl, rfl⟩
theorem EncodedLength.dex : EncodedLength.Statement (.dex) := ⟨rfl, rfl⟩
theorem EncodedLength.dey : EncodedLength.Statement (.dey) := ⟨rfl, rfl⟩
theorem EncodedLength.andImmediate (v : Byte) : EncodedLength.Statement (.andImmediate v) := ⟨rfl, rfl⟩
theorem EncodedLength.andZeroPage (z : Byte) : EncodedLength.Statement (.andZeroPage z) := ⟨rfl, rfl⟩
theorem EncodedLength.andZeroPageX (z : Byte) : EncodedLength.Statement (.andZeroPageX z) := ⟨rfl, rfl⟩
theorem EncodedLength.andAbsolute (a : Word) : EncodedLength.Statement (.andAbsolute a) := ⟨rfl, rfl⟩
theorem EncodedLength.andAbsoluteX (a : Word) : EncodedLength.Statement (.andAbsoluteX a) := ⟨rfl, rfl⟩
theorem EncodedLength.andAbsoluteY (a : Word) : EncodedLength.Statement (.andAbsoluteY a) := ⟨rfl, rfl⟩
theorem EncodedLength.andIndexedIndirectX (z : Byte) : EncodedLength.Statement (.andIndexedIndirectX z) := ⟨rfl, rfl⟩
theorem EncodedLength.andIndirectIndexedY (z : Byte) : EncodedLength.Statement (.andIndirectIndexedY z) := ⟨rfl, rfl⟩
theorem EncodedLength.oraImmediate (v : Byte) : EncodedLength.Statement (.oraImmediate v) := ⟨rfl, rfl⟩
theorem EncodedLength.oraZeroPage (z : Byte) : EncodedLength.Statement (.oraZeroPage z) := ⟨rfl, rfl⟩
theorem EncodedLength.oraZeroPageX (z : Byte) : EncodedLength.Statement (.oraZeroPageX z) := ⟨rfl, rfl⟩
theorem EncodedLength.oraAbsolute (a : Word) : EncodedLength.Statement (.oraAbsolute a) := ⟨rfl, rfl⟩
theorem EncodedLength.oraAbsoluteX (a : Word) : EncodedLength.Statement (.oraAbsoluteX a) := ⟨rfl, rfl⟩
theorem EncodedLength.oraAbsoluteY (a : Word) : EncodedLength.Statement (.oraAbsoluteY a) := ⟨rfl, rfl⟩
theorem EncodedLength.oraIndexedIndirectX (z : Byte) : EncodedLength.Statement (.oraIndexedIndirectX z) := ⟨rfl, rfl⟩
theorem EncodedLength.oraIndirectIndexedY (z : Byte) : EncodedLength.Statement (.oraIndirectIndexedY z) := ⟨rfl, rfl⟩
theorem EncodedLength.eorImmediate (v : Byte) : EncodedLength.Statement (.eorImmediate v) := ⟨rfl, rfl⟩
theorem EncodedLength.eorZeroPage (z : Byte) : EncodedLength.Statement (.eorZeroPage z) := ⟨rfl, rfl⟩
theorem EncodedLength.eorZeroPageX (z : Byte) : EncodedLength.Statement (.eorZeroPageX z) := ⟨rfl, rfl⟩
theorem EncodedLength.eorAbsolute (a : Word) : EncodedLength.Statement (.eorAbsolute a) := ⟨rfl, rfl⟩
theorem EncodedLength.eorAbsoluteX (a : Word) : EncodedLength.Statement (.eorAbsoluteX a) := ⟨rfl, rfl⟩
theorem EncodedLength.eorAbsoluteY (a : Word) : EncodedLength.Statement (.eorAbsoluteY a) := ⟨rfl, rfl⟩
theorem EncodedLength.eorIndexedIndirectX (z : Byte) : EncodedLength.Statement (.eorIndexedIndirectX z) := ⟨rfl, rfl⟩
theorem EncodedLength.eorIndirectIndexedY (z : Byte) : EncodedLength.Statement (.eorIndirectIndexedY z) := ⟨rfl, rfl⟩
theorem EncodedLength.bitZeroPage (z : Byte) : EncodedLength.Statement (.bitZeroPage z) := ⟨rfl, rfl⟩
theorem EncodedLength.bitAbsolute (a : Word) : EncodedLength.Statement (.bitAbsolute a) := ⟨rfl, rfl⟩
theorem EncodedLength.aslAccumulator : EncodedLength.Statement (.aslAccumulator) := ⟨rfl, rfl⟩
theorem EncodedLength.aslZeroPage (z : Byte) : EncodedLength.Statement (.aslZeroPage z) := ⟨rfl, rfl⟩
theorem EncodedLength.aslZeroPageX (z : Byte) : EncodedLength.Statement (.aslZeroPageX z) := ⟨rfl, rfl⟩
theorem EncodedLength.aslAbsolute (a : Word) : EncodedLength.Statement (.aslAbsolute a) := ⟨rfl, rfl⟩
theorem EncodedLength.aslAbsoluteX (a : Word) : EncodedLength.Statement (.aslAbsoluteX a) := ⟨rfl, rfl⟩
theorem EncodedLength.lsrAccumulator : EncodedLength.Statement (.lsrAccumulator) := ⟨rfl, rfl⟩
theorem EncodedLength.lsrZeroPage (z : Byte) : EncodedLength.Statement (.lsrZeroPage z) := ⟨rfl, rfl⟩
theorem EncodedLength.lsrZeroPageX (z : Byte) : EncodedLength.Statement (.lsrZeroPageX z) := ⟨rfl, rfl⟩
theorem EncodedLength.lsrAbsolute (a : Word) : EncodedLength.Statement (.lsrAbsolute a) := ⟨rfl, rfl⟩
theorem EncodedLength.lsrAbsoluteX (a : Word) : EncodedLength.Statement (.lsrAbsoluteX a) := ⟨rfl, rfl⟩
theorem EncodedLength.rolAccumulator : EncodedLength.Statement (.rolAccumulator) := ⟨rfl, rfl⟩
theorem EncodedLength.rolZeroPage (z : Byte) : EncodedLength.Statement (.rolZeroPage z) := ⟨rfl, rfl⟩
theorem EncodedLength.rolZeroPageX (z : Byte) : EncodedLength.Statement (.rolZeroPageX z) := ⟨rfl, rfl⟩
theorem EncodedLength.rolAbsolute (a : Word) : EncodedLength.Statement (.rolAbsolute a) := ⟨rfl, rfl⟩
theorem EncodedLength.rolAbsoluteX (a : Word) : EncodedLength.Statement (.rolAbsoluteX a) := ⟨rfl, rfl⟩
theorem EncodedLength.rorAccumulator : EncodedLength.Statement (.rorAccumulator) := ⟨rfl, rfl⟩
theorem EncodedLength.rorZeroPage (z : Byte) : EncodedLength.Statement (.rorZeroPage z) := ⟨rfl, rfl⟩
theorem EncodedLength.rorZeroPageX (z : Byte) : EncodedLength.Statement (.rorZeroPageX z) := ⟨rfl, rfl⟩
theorem EncodedLength.rorAbsolute (a : Word) : EncodedLength.Statement (.rorAbsolute a) := ⟨rfl, rfl⟩
theorem EncodedLength.rorAbsoluteX (a : Word) : EncodedLength.Statement (.rorAbsoluteX a) := ⟨rfl, rfl⟩
theorem EncodedLength.bpl (o : Byte) : EncodedLength.Statement (.bpl o) := ⟨rfl, rfl⟩
theorem EncodedLength.bmi (o : Byte) : EncodedLength.Statement (.bmi o) := ⟨rfl, rfl⟩
theorem EncodedLength.bvc (o : Byte) : EncodedLength.Statement (.bvc o) := ⟨rfl, rfl⟩
theorem EncodedLength.bvs (o : Byte) : EncodedLength.Statement (.bvs o) := ⟨rfl, rfl⟩
theorem EncodedLength.bcc (o : Byte) : EncodedLength.Statement (.bcc o) := ⟨rfl, rfl⟩
theorem EncodedLength.bcs (o : Byte) : EncodedLength.Statement (.bcs o) := ⟨rfl, rfl⟩
theorem EncodedLength.bne (o : Byte) : EncodedLength.Statement (.bne o) := ⟨rfl, rfl⟩
theorem EncodedLength.beq (o : Byte) : EncodedLength.Statement (.beq o) := ⟨rfl, rfl⟩
theorem EncodedLength.jmpAbsolute (a : Word) : EncodedLength.Statement (.jmpAbsolute a) := ⟨rfl, rfl⟩
theorem EncodedLength.jmpIndirect (p : Word) : EncodedLength.Statement (.jmpIndirect p) := ⟨rfl, rfl⟩
theorem EncodedLength.jsr (a : Word) : EncodedLength.Statement (.jsr a) := ⟨rfl, rfl⟩
theorem EncodedLength.rts : EncodedLength.Statement (.rts) := ⟨rfl, rfl⟩
theorem EncodedLength.pha : EncodedLength.Statement (.pha) := ⟨rfl, rfl⟩
theorem EncodedLength.php : EncodedLength.Statement (.php) := ⟨rfl, rfl⟩
theorem EncodedLength.pla : EncodedLength.Statement (.pla) := ⟨rfl, rfl⟩
theorem EncodedLength.plp : EncodedLength.Statement (.plp) := ⟨rfl, rfl⟩
theorem EncodedLength.tax : EncodedLength.Statement (.tax) := ⟨rfl, rfl⟩
theorem EncodedLength.tay : EncodedLength.Statement (.tay) := ⟨rfl, rfl⟩
theorem EncodedLength.txa : EncodedLength.Statement (.txa) := ⟨rfl, rfl⟩
theorem EncodedLength.tya : EncodedLength.Statement (.tya) := ⟨rfl, rfl⟩
theorem EncodedLength.tsx : EncodedLength.Statement (.tsx) := ⟨rfl, rfl⟩
theorem EncodedLength.txs : EncodedLength.Statement (.txs) := ⟨rfl, rfl⟩
theorem EncodedLength.clc : EncodedLength.Statement (.clc) := ⟨rfl, rfl⟩
theorem EncodedLength.sec : EncodedLength.Statement (.sec) := ⟨rfl, rfl⟩
theorem EncodedLength.cli : EncodedLength.Statement (.cli) := ⟨rfl, rfl⟩
theorem EncodedLength.sei : EncodedLength.Statement (.sei) := ⟨rfl, rfl⟩
theorem EncodedLength.cld : EncodedLength.Statement (.cld) := ⟨rfl, rfl⟩
theorem EncodedLength.sed : EncodedLength.Statement (.sed) := ⟨rfl, rfl⟩
theorem EncodedLength.clv : EncodedLength.Statement (.clv) := ⟨rfl, rfl⟩
theorem EncodedLength.nop : EncodedLength.Statement (.nop) := ⟨rfl, rfl⟩
theorem EncodedLength.brk : EncodedLength.Statement (.brk) := ⟨rfl, rfl⟩
theorem EncodedLength.rti : EncodedLength.Statement (.rti) := ⟨rfl, rfl⟩

end Sys2Proof.Laws
end

