-- ==== Sys2Proof/Laws/Step.lean ====
section
/-! SUPPORT. What a step can answer: Halted, an interrupt entry, a DecodeFault, or one instruction. -/

namespace Sys2Proof.Machine

theorem step_halted {s : State} (h : s.loopState = .halted) : step s = .fault (.halted s.fault) := by
  simp [step, h]

theorem step_fetching {s : State} (h : s.loopState = .fetching) : step s = stepFetching s := by
  simp [step, h]

theorem stepFetching_of_none {s : State} (h : acceptedInterrupt s = none) :
    stepFetching s = executeOne (beginStep s) := by
  simp [stepFetching, h]

theorem stepFetching_of_some {s : State} {k : InterruptKind} (h : acceptedInterrupt s = some k) :
    stepFetching s = .next (interruptEntry k (beginStep s)) := by
  simp [stepFetching, h]

theorem executeOne_invalid {s : State} (h : opcodeRow (s.byteAt s.pc) = none) :
    executeOne s = .next (raiseDecodeFault (s.byteAt s.pc) s.pc (fetchByte s).2) := by
  simp [executeOne, h]

theorem executeOne_row {s : State} {r : OpcodeRow} (h : opcodeRow (s.byteAt s.pc) = some r) :
    executeOne s = executeShape r.shape (fetchByte s).2 := by
  simp [executeOne, h]

theorem encode_length (i : Instr) : (encode i).length = i.length := by cases i <;> rfl

/-- A state with `n` bytes fetched: PC past them, and their reads recorded in order. -/
def fetchedBytes (n : Nat) (s : State) : State :=
  { s with
    pc := s.pc + BitVec.ofNat 16 n
    bus := s.bus ++ (List.range n).map fun k => .read (s.pc + BitVec.ofNat 16 k) }

/-- The three formats, whole: the operand bytes are fetched after the opcode byte, then the instruction runs. -/
theorem executeOne_runs {s : State} {r : OpcodeRow} (h : opcodeRow (s.byteAt s.pc) = some r) :
    ∃ i : Instr, i.mnemonic = r.mnemonic ∧ i.mode = r.mode ∧
      encode i <+: [s.byteAt s.pc, s.byteAt (s.pc + 1), s.byteAt (s.pc + 2)] ∧
      executeOne s = exec i (fetchedBytes i.length s) := by
  obtain ⟨ho, hs⟩ := opcodeRow_sound h
  rw [executeOne_row h]
  unfold OpcodeRow.Sound at hs
  cases hsh : r.shape with
  | f1 i =>
    rw [hsh] at hs
    obtain ⟨he, hm, hmode⟩ := hs
    refine ⟨i, hm, hmode, by rw [he, ho]; exact ⟨_, rfl⟩, ?_⟩
    rw [← encode_length, he]
    simp [executeShape, fetchByte, fetchedBytes, memRead, State.record, List.range_succ]
  | f2 make =>
    rw [hsh] at hs
    obtain ⟨he, hm, hmode⟩ := hs (s.byteAt (s.pc + 1))
    refine ⟨_, hm, hmode, by rw [he, ho]; exact ⟨_, rfl⟩, ?_⟩
    rw [← encode_length, he]
    simp [executeShape, fetchByte, fetchedBytes, memRead, State.record, State.byteAt, List.range_succ, BitVec.add_assoc]
  | f3 make =>
    rw [hsh] at hs
    obtain ⟨he, hm, hmode⟩ := hs (joinBytes (s.byteAt (s.pc + 2)) (s.byteAt (s.pc + 1)))
    refine ⟨_, hm, hmode, by rw [he, ho, lowByte_joinBytes, highByte_joinBytes], ?_⟩
    rw [← encode_length, he]
    simp [executeShape, fetchByte, fetchedBytes, memRead, State.record, State.byteAt, List.range_succ, BitVec.add_assoc]

/-- Everything a step in Fetching can answer. -/
theorem stepFetching_cases (s : State) :
    (∃ k, acceptedInterrupt s = some k ∧ stepFetching s = .next (interruptEntry k (beginStep s))) ∨
    (acceptedInterrupt s = none ∧ opcodeRow (s.byteAt s.pc) = none ∧
      stepFetching s = .next (raiseDecodeFault (s.byteAt s.pc) s.pc (fetchByte (beginStep s)).2)) ∨
    (acceptedInterrupt s = none ∧
      ∃ i : Instr, stepFetching s = exec i (fetchedBytes i.length (beginStep s))) := by
  cases ha : acceptedInterrupt s with
  | some k => exact .inl ⟨k, rfl, stepFetching_of_some ha⟩
  | none =>
    rw [stepFetching_of_none ha]
    cases ho : opcodeRow ((beginStep s).byteAt (beginStep s).pc) with
    | none => exact .inr (.inl ⟨rfl, ho, executeOne_invalid ho⟩)
    | some r =>
      obtain ⟨i, -, -, -, hi⟩ := executeOne_runs ho
      exact .inr (.inr ⟨rfl, i, hi⟩)

end Sys2Proof.Machine
end

