-- ==== Sys2Proof/Tests/Slice0.lean ====
section
/-! SUPPORT. Tests. Every expected value is the spec's: the encodings and the vectors of 95_test_vectors.md, or a rule
that the test cites. The last part shows, for each statement with hypotheses, a state that meets them. -/

namespace Sys2Proof.Tests

open Sys2Proof Sys2Proof.Machine Sys2Proof.Claims

/-! ### Ill-formed forms are refused (30_encoding.md R104; 41_load_store.md R163) -/

theorem test_wellFormed_refuses_sta_immediate : (Form.mk .sta .immediate).wellFormed = false := by decide
theorem test_wellFormed_refuses_stx_absolute_y : (Form.mk .stx .absoluteY).wellFormed = false := by decide
theorem test_wellFormed_refuses_sty_absolute_x : (Form.mk .sty .absoluteX).wellFormed = false := by decide
theorem test_wellFormed_refuses_ldx_zero_page_x : (Form.mk .ldx .zeroPageX).wellFormed = false := by decide
theorem test_wellFormed_refuses_ldy_zero_page_y : (Form.mk .ldy .zeroPageY).wellFormed = false := by decide
theorem test_wellFormed_refuses_cpx_zero_page_x : (Form.mk .cpx .zeroPageX).wellFormed = false := by decide
theorem test_wellFormed_refuses_bit_immediate : (Form.mk .bit .immediate).wellFormed = false := by decide
theorem test_wellFormed_refuses_inc_accumulator : (Form.mk .inc .accumulator).wellFormed = false := by decide
theorem test_wellFormed_refuses_asl_absolute_y : (Form.mk .asl .absoluteY).wellFormed = false := by decide
theorem test_wellFormed_refuses_jsr_indirect : (Form.mk .jsr .indirect).wellFormed = false := by decide
theorem test_wellFormed_refuses_jmp_zero_page : (Form.mk .jmp .zeroPage).wellFormed = false := by decide
theorem test_wellFormed_refuses_bne_absolute : (Form.mk .bne .absolute).wellFormed = false := by decide
theorem test_wellFormed_refuses_nop_immediate : (Form.mk .nop .immediate).wellFormed = false := by decide

/-- Every element of a list of checks holds. -/
abbrev allTrue (l : List Bool) : Prop := l.all id = true

/-- The bytes, with one more byte after them, decode to the instruction and leave that byte. -/
def decodes (bytes : List Byte) (i : Instr) : Bool := decide (decode (bytes ++ [0x55]) = .ok (i, [0x55]))

/-! ### Decoding: each opcode's bytes, from the encodings V-OP lists, followed by one byte that is not consumed -/

theorem test_decode_opcode_map_row_0 : allTrue [
    decodes [0x00] .brk,
    decodes [0x01, 0x9C] (.oraIndexedIndirectX 0x9C),
    decodes [0x05, 0x9C] (.oraZeroPage 0x9C),
    decodes [0x06, 0x9C] (.aslZeroPage 0x9C),
    decodes [0x08] .php,
    decodes [0x09, 0x9C] (.oraImmediate 0x9C),
    decodes [0x0A] .aslAccumulator,
    decodes [0x0D, 0x9C, 0x37] (.oraAbsolute 0x379C),
    decodes [0x0E, 0x9C, 0x37] (.aslAbsolute 0x379C)] := by decide

theorem test_decode_opcode_map_row_1 : allTrue [
    decodes [0x10, 0x9C] (.bpl 0x9C),
    decodes [0x11, 0x9C] (.oraIndirectIndexedY 0x9C),
    decodes [0x15, 0x9C] (.oraZeroPageX 0x9C),
    decodes [0x16, 0x9C] (.aslZeroPageX 0x9C),
    decodes [0x18] .clc,
    decodes [0x19, 0x9C, 0x37] (.oraAbsoluteY 0x379C),
    decodes [0x1D, 0x9C, 0x37] (.oraAbsoluteX 0x379C),
    decodes [0x1E, 0x9C, 0x37] (.aslAbsoluteX 0x379C)] := by decide

theorem test_decode_opcode_map_row_2 : allTrue [
    decodes [0x20, 0x9C, 0x37] (.jsr 0x379C),
    decodes [0x21, 0x9C] (.andIndexedIndirectX 0x9C),
    decodes [0x24, 0x9C] (.bitZeroPage 0x9C),
    decodes [0x25, 0x9C] (.andZeroPage 0x9C),
    decodes [0x26, 0x9C] (.rolZeroPage 0x9C),
    decodes [0x28] .plp,
    decodes [0x29, 0x9C] (.andImmediate 0x9C),
    decodes [0x2A] .rolAccumulator,
    decodes [0x2C, 0x9C, 0x37] (.bitAbsolute 0x379C),
    decodes [0x2D, 0x9C, 0x37] (.andAbsolute 0x379C),
    decodes [0x2E, 0x9C, 0x37] (.rolAbsolute 0x379C)] := by decide

theorem test_decode_opcode_map_row_3 : allTrue [
    decodes [0x30, 0x9C] (.bmi 0x9C),
    decodes [0x31, 0x9C] (.andIndirectIndexedY 0x9C),
    decodes [0x35, 0x9C] (.andZeroPageX 0x9C),
    decodes [0x36, 0x9C] (.rolZeroPageX 0x9C),
    decodes [0x38] .sec,
    decodes [0x39, 0x9C, 0x37] (.andAbsoluteY 0x379C),
    decodes [0x3D, 0x9C, 0x37] (.andAbsoluteX 0x379C),
    decodes [0x3E, 0x9C, 0x37] (.rolAbsoluteX 0x379C)] := by decide

theorem test_decode_opcode_map_row_4 : allTrue [
    decodes [0x40] .rti,
    decodes [0x41, 0x9C] (.eorIndexedIndirectX 0x9C),
    decodes [0x45, 0x9C] (.eorZeroPage 0x9C),
    decodes [0x46, 0x9C] (.lsrZeroPage 0x9C),
    decodes [0x48] .pha,
    decodes [0x49, 0x9C] (.eorImmediate 0x9C),
    decodes [0x4A] .lsrAccumulator,
    decodes [0x4C, 0x9C, 0x37] (.jmpAbsolute 0x379C),
    decodes [0x4D, 0x9C, 0x37] (.eorAbsolute 0x379C),
    decodes [0x4E, 0x9C, 0x37] (.lsrAbsolute 0x379C)] := by decide

theorem test_decode_opcode_map_row_5 : allTrue [
    decodes [0x50, 0x9C] (.bvc 0x9C),
    decodes [0x51, 0x9C] (.eorIndirectIndexedY 0x9C),
    decodes [0x55, 0x9C] (.eorZeroPageX 0x9C),
    decodes [0x56, 0x9C] (.lsrZeroPageX 0x9C),
    decodes [0x58] .cli,
    decodes [0x59, 0x9C, 0x37] (.eorAbsoluteY 0x379C),
    decodes [0x5D, 0x9C, 0x37] (.eorAbsoluteX 0x379C),
    decodes [0x5E, 0x9C, 0x37] (.lsrAbsoluteX 0x379C)] := by decide

theorem test_decode_opcode_map_row_6 : allTrue [
    decodes [0x60] .rts,
    decodes [0x61, 0x9C] (.adcIndexedIndirectX 0x9C),
    decodes [0x65, 0x9C] (.adcZeroPage 0x9C),
    decodes [0x66, 0x9C] (.rorZeroPage 0x9C),
    decodes [0x68] .pla,
    decodes [0x69, 0x9C] (.adcImmediate 0x9C),
    decodes [0x6A] .rorAccumulator,
    decodes [0x6C, 0x9C, 0x37] (.jmpIndirect 0x379C),
    decodes [0x6D, 0x9C, 0x37] (.adcAbsolute 0x379C),
    decodes [0x6E, 0x9C, 0x37] (.rorAbsolute 0x379C)] := by decide

theorem test_decode_opcode_map_row_7 : allTrue [
    decodes [0x70, 0x9C] (.bvs 0x9C),
    decodes [0x71, 0x9C] (.adcIndirectIndexedY 0x9C),
    decodes [0x75, 0x9C] (.adcZeroPageX 0x9C),
    decodes [0x76, 0x9C] (.rorZeroPageX 0x9C),
    decodes [0x78] .sei,
    decodes [0x79, 0x9C, 0x37] (.adcAbsoluteY 0x379C),
    decodes [0x7D, 0x9C, 0x37] (.adcAbsoluteX 0x379C),
    decodes [0x7E, 0x9C, 0x37] (.rorAbsoluteX 0x379C)] := by decide

theorem test_decode_opcode_map_row_8 : allTrue [
    decodes [0x81, 0x9C] (.staIndexedIndirectX 0x9C),
    decodes [0x84, 0x9C] (.styZeroPage 0x9C),
    decodes [0x85, 0x9C] (.staZeroPage 0x9C),
    decodes [0x86, 0x9C] (.stxZeroPage 0x9C),
    decodes [0x88] .dey,
    decodes [0x8A] .txa,
    decodes [0x8C, 0x9C, 0x37] (.styAbsolute 0x379C),
    decodes [0x8D, 0x9C, 0x37] (.staAbsolute 0x379C),
    decodes [0x8E, 0x9C, 0x37] (.stxAbsolute 0x379C)] := by decide

theorem test_decode_opcode_map_row_9 : allTrue [
    decodes [0x90, 0x9C] (.bcc 0x9C),
    decodes [0x91, 0x9C] (.staIndirectIndexedY 0x9C),
    decodes [0x94, 0x9C] (.styZeroPageX 0x9C),
    decodes [0x95, 0x9C] (.staZeroPageX 0x9C),
    decodes [0x96, 0x9C] (.stxZeroPageY 0x9C),
    decodes [0x98] .tya,
    decodes [0x99, 0x9C, 0x37] (.staAbsoluteY 0x379C),
    decodes [0x9A] .txs,
    decodes [0x9D, 0x9C, 0x37] (.staAbsoluteX 0x379C)] := by decide

theorem test_decode_opcode_map_row_A : allTrue [
    decodes [0xA0, 0x9C] (.ldyImmediate 0x9C),
    decodes [0xA1, 0x9C] (.ldaIndexedIndirectX 0x9C),
    decodes [0xA2, 0x9C] (.ldxImmediate 0x9C),
    decodes [0xA4, 0x9C] (.ldyZeroPage 0x9C),
    decodes [0xA5, 0x9C] (.ldaZeroPage 0x9C),
    decodes [0xA6, 0x9C] (.ldxZeroPage 0x9C),
    decodes [0xA8] .tay,
    decodes [0xA9, 0x9C] (.ldaImmediate 0x9C),
    decodes [0xAA] .tax,
    decodes [0xAC, 0x9C, 0x37] (.ldyAbsolute 0x379C),
    decodes [0xAD, 0x9C, 0x37] (.ldaAbsolute 0x379C),
    decodes [0xAE, 0x9C, 0x37] (.ldxAbsolute 0x379C)] := by decide

theorem test_decode_opcode_map_row_B : allTrue [
    decodes [0xB0, 0x9C] (.bcs 0x9C),
    decodes [0xB1, 0x9C] (.ldaIndirectIndexedY 0x9C),
    decodes [0xB4, 0x9C] (.ldyZeroPageX 0x9C),
    decodes [0xB5, 0x9C] (.ldaZeroPageX 0x9C),
    decodes [0xB6, 0x9C] (.ldxZeroPageY 0x9C),
    decodes [0xB8] .clv,
    decodes [0xB9, 0x9C, 0x37] (.ldaAbsoluteY 0x379C),
    decodes [0xBA] .tsx,
    decodes [0xBC, 0x9C, 0x37] (.ldyAbsoluteX 0x379C),
    decodes [0xBD, 0x9C, 0x37] (.ldaAbsoluteX 0x379C),
    decodes [0xBE, 0x9C, 0x37] (.ldxAbsoluteY 0x379C)] := by decide

theorem test_decode_opcode_map_row_C : allTrue [
    decodes [0xC0, 0x9C] (.cpyImmediate 0x9C),
    decodes [0xC1, 0x9C] (.cmpIndexedIndirectX 0x9C),
    decodes [0xC4, 0x9C] (.cpyZeroPage 0x9C),
    decodes [0xC5, 0x9C] (.cmpZeroPage 0x9C),
    decodes [0xC6, 0x9C] (.decZeroPage 0x9C),
    decodes [0xC8] .iny,
    decodes [0xC9, 0x9C] (.cmpImmediate 0x9C),
    decodes [0xCA] .dex,
    decodes [0xCC, 0x9C, 0x37] (.cpyAbsolute 0x379C),
    decodes [0xCD, 0x9C, 0x37] (.cmpAbsolute 0x379C),
    decodes [0xCE, 0x9C, 0x37] (.decAbsolute 0x379C)] := by decide

theorem test_decode_opcode_map_row_D : allTrue [
    decodes [0xD0, 0x9C] (.bne 0x9C),
    decodes [0xD1, 0x9C] (.cmpIndirectIndexedY 0x9C),
    decodes [0xD5, 0x9C] (.cmpZeroPageX 0x9C),
    decodes [0xD6, 0x9C] (.decZeroPageX 0x9C),
    decodes [0xD8] .cld,
    decodes [0xD9, 0x9C, 0x37] (.cmpAbsoluteY 0x379C),
    decodes [0xDD, 0x9C, 0x37] (.cmpAbsoluteX 0x379C),
    decodes [0xDE, 0x9C, 0x37] (.decAbsoluteX 0x379C)] := by decide

theorem test_decode_opcode_map_row_E : allTrue [
    decodes [0xE0, 0x9C] (.cpxImmediate 0x9C),
    decodes [0xE1, 0x9C] (.sbcIndexedIndirectX 0x9C),
    decodes [0xE4, 0x9C] (.cpxZeroPage 0x9C),
    decodes [0xE5, 0x9C] (.sbcZeroPage 0x9C),
    decodes [0xE6, 0x9C] (.incZeroPage 0x9C),
    decodes [0xE8] .inx,
    decodes [0xE9, 0x9C] (.sbcImmediate 0x9C),
    decodes [0xEA] .nop,
    decodes [0xEC, 0x9C, 0x37] (.cpxAbsolute 0x379C),
    decodes [0xED, 0x9C, 0x37] (.sbcAbsolute 0x379C),
    decodes [0xEE, 0x9C, 0x37] (.incAbsolute 0x379C)] := by decide

theorem test_decode_opcode_map_row_F : allTrue [
    decodes [0xF0, 0x9C] (.beq 0x9C),
    decodes [0xF1, 0x9C] (.sbcIndirectIndexedY 0x9C),
    decodes [0xF5, 0x9C] (.sbcZeroPageX 0x9C),
    decodes [0xF6, 0x9C] (.incZeroPageX 0x9C),
    decodes [0xF8] .sed,
    decodes [0xF9, 0x9C, 0x37] (.sbcAbsoluteY 0x379C),
    decodes [0xFD, 0x9C, 0x37] (.sbcAbsoluteX 0x379C),
    decodes [0xFE, 0x9C, 0x37] (.incAbsoluteX 0x379C)] := by decide

theorem test_decode_refuses_105_bytes :
    ((List.range 256).filter fun n => decode [BitVec.ofNat 8 n, 0, 0] = .error (.invalidOpcode (BitVec.ofNat 8 n))).length
      = 105 := by decide

theorem test_decode_refuses_short_input :
    decode [] = .error .noBytes ∧ decode [0xAD, 0x34] = .error (.missingOperand 0xAD) := by decide

theorem test_decodeTableWord_numbers_bytes_from_the_first :
    decodeTableWord 24 0x1234BD = some (.ldaAbsoluteX 0x1234) ∧ decodeTableWord 8 0xA9 = some (.ldaImmediate 0) ∧
      decodeTableWord 8 0x02 = none := by decide

/-! ### Vectors: one step from a small state -/

/-- The registers a vector names, with P as a byte. -/
structure Regs where
  a : Byte
  x : Byte
  y : Byte
  sp : Byte
  p : Byte
deriving DecidableEq, Repr

/-- The starting state of a vector: registers, memory, and the code at PC. -/
def start (r : Regs) (at_ : Word) (m : List (Word × Byte)) (code : List Byte) : State :=
  load at_ code (m.foldl (fun s kv => poke kv.1 kv.2 s)
    { State.reset with a := r.a, x := r.x, y := r.y, sp := r.sp, p := Status.load r.p, pc := at_ })

/-- The step from `s` is `Ok(cycles)` and gives the registers, PC and writes named, and no other write. -/
def gives (s : State) (r : Regs) (pc : Word) (cycles : Nat) (w : List (Word × Byte)) : Bool :=
  let (t, res) := hostStep s
  res == .ok cycles && Regs.mk t.a t.x t.y t.sp t.p.byte == r && t.pc == pc &&
    t.mem == (w.foldl (fun s kv => poke kv.1 kv.2 s) s).mem

/-- A vector whose two states are compared. -/
def vector (r : Regs) (at_ : Word) (m : List (Word × Byte)) (code : List Byte) (r' : Regs) (pc : Word) (cycles : Nat)
    (w : List (Word × Byte)) : Bool :=
  gives (start r at_ m code) r' pc cycles w

/-- The memory every row of V-OP starts from. -/
def opMemory : List (Word × Byte) :=
  [(0x0010, 0x40), (0x0011, 0x20), (0x0012, 0x03), (0x0310, 0x7F), (0x0311, 0x80), (0x0320, 0xC0), (0x2041, 0x01),
   (0x01FE, 0xC3), (0x01FF, 0x12), (0x0100, 0x34), (0xFFFE, 0x00), (0xFFFF, 0x90)]

/-- A row of V-OP. -/
def opVector (code : List Byte) (r' : Regs) (pc : Word) (cycles : Nat) (w : List (Word × Byte)) : Bool :=
  vector ⟨0x81, 0x01, 0x01, 0xFD, 0x21⟩ 0x0200 opMemory code r' pc cycles w

/-- V-OP: LDA LDX LDY STA STX STY. -/
theorem test_every_opcode_load_and_store : allTrue [
    opVector [0xA1, 0x10] ⟨0xC0, 0x01, 0x01, 0xFD, 0xA1⟩ 0x0202 6 [],
    opVector [0xA5, 0x10] ⟨0x40, 0x01, 0x01, 0xFD, 0x21⟩ 0x0202 3 [],
    opVector [0xA9, 0x10] ⟨0x10, 0x01, 0x01, 0xFD, 0x21⟩ 0x0202 2 [],
    opVector [0xAD, 0x10, 0x03] ⟨0x7F, 0x01, 0x01, 0xFD, 0x21⟩ 0x0203 4 [],
    opVector [0xB1, 0x10] ⟨0x01, 0x01, 0x01, 0xFD, 0x21⟩ 0x0202 5 [],
    opVector [0xB5, 0x10] ⟨0x20, 0x01, 0x01, 0xFD, 0x21⟩ 0x0202 4 [],
    opVector [0xB9, 0x10, 0x03] ⟨0x80, 0x01, 0x01, 0xFD, 0xA1⟩ 0x0203 4 [],
    opVector [0xBD, 0x10, 0x03] ⟨0x80, 0x01, 0x01, 0xFD, 0xA1⟩ 0x0203 4 [],
    opVector [0xA2, 0x10] ⟨0x81, 0x10, 0x01, 0xFD, 0x21⟩ 0x0202 2 [],
    opVector [0xA6, 0x10] ⟨0x81, 0x40, 0x01, 0xFD, 0x21⟩ 0x0202 3 [],
    opVector [0xAE, 0x10, 0x03] ⟨0x81, 0x7F, 0x01, 0xFD, 0x21⟩ 0x0203 4 [],
    opVector [0xB6, 0x10] ⟨0x81, 0x20, 0x01, 0xFD, 0x21⟩ 0x0202 4 [],
    opVector [0xBE, 0x10, 0x03] ⟨0x81, 0x80, 0x01, 0xFD, 0xA1⟩ 0x0203 4 [],
    opVector [0xA0, 0x10] ⟨0x81, 0x01, 0x10, 0xFD, 0x21⟩ 0x0202 2 [],
    opVector [0xA4, 0x10] ⟨0x81, 0x01, 0x40, 0xFD, 0x21⟩ 0x0202 3 [],
    opVector [0xAC, 0x10, 0x03] ⟨0x81, 0x01, 0x7F, 0xFD, 0x21⟩ 0x0203 4 [],
    opVector [0xB4, 0x10] ⟨0x81, 0x01, 0x20, 0xFD, 0x21⟩ 0x0202 4 [],
    opVector [0xBC, 0x10, 0x03] ⟨0x81, 0x01, 0x80, 0xFD, 0xA1⟩ 0x0203 4 [],
    opVector [0x81, 0x10] ⟨0x81, 0x01, 0x01, 0xFD, 0x21⟩ 0x0202 6 [(0x0320, 0x81)],
    opVector [0x85, 0x10] ⟨0x81, 0x01, 0x01, 0xFD, 0x21⟩ 0x0202 3 [(0x0010, 0x81)],
    opVector [0x8D, 0x10, 0x03] ⟨0x81, 0x01, 0x01, 0xFD, 0x21⟩ 0x0203 4 [(0x0310, 0x81)],
    opVector [0x91, 0x10] ⟨0x81, 0x01, 0x01, 0xFD, 0x21⟩ 0x0202 6 [(0x2041, 0x81)],
    opVector [0x95, 0x10] ⟨0x81, 0x01, 0x01, 0xFD, 0x21⟩ 0x0202 4 [(0x0011, 0x81)],
    opVector [0x99, 0x10, 0x03] ⟨0x81, 0x01, 0x01, 0xFD, 0x21⟩ 0x0203 5 [(0x0311, 0x81)],
    opVector [0x9D, 0x10, 0x03] ⟨0x81, 0x01, 0x01, 0xFD, 0x21⟩ 0x0203 5 [(0x0311, 0x81)],
    opVector [0x86, 0x10] ⟨0x81, 0x01, 0x01, 0xFD, 0x21⟩ 0x0202 3 [(0x0010, 0x01)],
    opVector [0x8E, 0x10, 0x03] ⟨0x81, 0x01, 0x01, 0xFD, 0x21⟩ 0x0203 4 [(0x0310, 0x01)],
    opVector [0x96, 0x10] ⟨0x81, 0x01, 0x01, 0xFD, 0x21⟩ 0x0202 4 [(0x0011, 0x01)],
    opVector [0x84, 0x10] ⟨0x81, 0x01, 0x01, 0xFD, 0x21⟩ 0x0202 3 [(0x0010, 0x01)],
    opVector [0x8C, 0x10, 0x03] ⟨0x81, 0x01, 0x01, 0xFD, 0x21⟩ 0x0203 4 [(0x0310, 0x01)],
    opVector [0x94, 0x10] ⟨0x81, 0x01, 0x01, 0xFD, 0x21⟩ 0x0202 4 [(0x0011, 0x01)]] := by decide

/-- V-OP: ADC SBC. -/
theorem test_every_opcode_add_and_subtract : allTrue [
    opVector [0x61, 0x10] ⟨0x42, 0x01, 0x01, 0xFD, 0x61⟩ 0x0202 6 [],
    opVector [0x65, 0x10] ⟨0xC2, 0x01, 0x01, 0xFD, 0xA0⟩ 0x0202 3 [],
    opVector [0x69, 0x10] ⟨0x92, 0x01, 0x01, 0xFD, 0xA0⟩ 0x0202 2 [],
    opVector [0x6D, 0x10, 0x03] ⟨0x01, 0x01, 0x01, 0xFD, 0x21⟩ 0x0203 4 [],
    opVector [0x71, 0x10] ⟨0x83, 0x01, 0x01, 0xFD, 0xA0⟩ 0x0202 5 [],
    opVector [0x75, 0x10] ⟨0xA2, 0x01, 0x01, 0xFD, 0xA0⟩ 0x0202 4 [],
    opVector [0x79, 0x10, 0x03] ⟨0x02, 0x01, 0x01, 0xFD, 0x61⟩ 0x0203 4 [],
    opVector [0x7D, 0x10, 0x03] ⟨0x02, 0x01, 0x01, 0xFD, 0x61⟩ 0x0203 4 [],
    opVector [0xE1, 0x10] ⟨0xC1, 0x01, 0x01, 0xFD, 0xA0⟩ 0x0202 6 [],
    opVector [0xE5, 0x10] ⟨0x41, 0x01, 0x01, 0xFD, 0x61⟩ 0x0202 3 [],
    opVector [0xE9, 0x10] ⟨0x71, 0x01, 0x01, 0xFD, 0x61⟩ 0x0202 2 [],
    opVector [0xED, 0x10, 0x03] ⟨0x02, 0x01, 0x01, 0xFD, 0x61⟩ 0x0203 4 [],
    opVector [0xF1, 0x10] ⟨0x80, 0x01, 0x01, 0xFD, 0xA1⟩ 0x0202 5 [],
    opVector [0xF5, 0x10] ⟨0x61, 0x01, 0x01, 0xFD, 0x61⟩ 0x0202 4 [],
    opVector [0xF9, 0x10, 0x03] ⟨0x01, 0x01, 0x01, 0xFD, 0x21⟩ 0x0203 4 [],
    opVector [0xFD, 0x10, 0x03] ⟨0x01, 0x01, 0x01, 0xFD, 0x21⟩ 0x0203 4 []] := by decide

/-- V-OP: CMP CPX CPY. -/
theorem test_every_opcode_compare : allTrue [
    opVector [0xC1, 0x10] ⟨0x81, 0x01, 0x01, 0xFD, 0xA0⟩ 0x0202 6 [],
    opVector [0xC5, 0x10] ⟨0x81, 0x01, 0x01, 0xFD, 0x21⟩ 0x0202 3 [],
    opVector [0xC9, 0x10] ⟨0x81, 0x01, 0x01, 0xFD, 0x21⟩ 0x0202 2 [],
    opVector [0xCD, 0x10, 0x03] ⟨0x81, 0x01, 0x01, 0xFD, 0x21⟩ 0x0203 4 [],
    opVector [0xD1, 0x10] ⟨0x81, 0x01, 0x01, 0xFD, 0xA1⟩ 0x0202 5 [],
    opVector [0xD5, 0x10] ⟨0x81, 0x01, 0x01, 0xFD, 0x21⟩ 0x0202 4 [],
    opVector [0xD9, 0x10, 0x03] ⟨0x81, 0x01, 0x01, 0xFD, 0x21⟩ 0x0203 4 [],
    opVector [0xDD, 0x10, 0x03] ⟨0x81, 0x01, 0x01, 0xFD, 0x21⟩ 0x0203 4 [],
    opVector [0xE0, 0x10] ⟨0x81, 0x01, 0x01, 0xFD, 0xA0⟩ 0x0202 2 [],
    opVector [0xE4, 0x10] ⟨0x81, 0x01, 0x01, 0xFD, 0xA0⟩ 0x0202 3 [],
    opVector [0xEC, 0x10, 0x03] ⟨0x81, 0x01, 0x01, 0xFD, 0xA0⟩ 0x0203 4 [],
    opVector [0xC0, 0x10] ⟨0x81, 0x01, 0x01, 0xFD, 0xA0⟩ 0x0202 2 [],
    opVector [0xC4, 0x10] ⟨0x81, 0x01, 0x01, 0xFD, 0xA0⟩ 0x0202 3 [],
    opVector [0xCC, 0x10, 0x03] ⟨0x81, 0x01, 0x01, 0xFD, 0xA0⟩ 0x0203 4 []] := by decide

/-- V-OP: INC DEC INX INY DEX DEY. -/
theorem test_every_opcode_increment_and_decrement : allTrue [
    opVector [0xE6, 0x10] ⟨0x81, 0x01, 0x01, 0xFD, 0x21⟩ 0x0202 5 [(0x0010, 0x41)],
    opVector [0xEE, 0x10, 0x03] ⟨0x81, 0x01, 0x01, 0xFD, 0xA1⟩ 0x0203 6 [(0x0310, 0x80)],
    opVector [0xF6, 0x10] ⟨0x81, 0x01, 0x01, 0xFD, 0x21⟩ 0x0202 6 [(0x0011, 0x21)],
    opVector [0xFE, 0x10, 0x03] ⟨0x81, 0x01, 0x01, 0xFD, 0xA1⟩ 0x0203 7 [(0x0311, 0x81)],
    opVector [0xC6, 0x10] ⟨0x81, 0x01, 0x01, 0xFD, 0x21⟩ 0x0202 5 [(0x0010, 0x3F)],
    opVector [0xCE, 0x10, 0x03] ⟨0x81, 0x01, 0x01, 0xFD, 0x21⟩ 0x0203 6 [(0x0310, 0x7E)],
    opVector [0xD6, 0x10] ⟨0x81, 0x01, 0x01, 0xFD, 0x21⟩ 0x0202 6 [(0x0011, 0x1F)],
    opVector [0xDE, 0x10, 0x03] ⟨0x81, 0x01, 0x01, 0xFD, 0x21⟩ 0x0203 7 [(0x0311, 0x7F)],
    opVector [0xE8] ⟨0x81, 0x02, 0x01, 0xFD, 0x21⟩ 0x0201 2 [],
    opVector [0xC8] ⟨0x81, 0x01, 0x02, 0xFD, 0x21⟩ 0x0201 2 [],
    opVector [0xCA] ⟨0x81, 0x00, 0x01, 0xFD, 0x23⟩ 0x0201 2 [],
    opVector [0x88] ⟨0x81, 0x01, 0x00, 0xFD, 0x23⟩ 0x0201 2 []] := by decide

/-- V-OP: AND ORA EOR BIT. -/
theorem test_every_opcode_logical : allTrue [
    opVector [0x21, 0x10] ⟨0x80, 0x01, 0x01, 0xFD, 0xA1⟩ 0x0202 6 [],
    opVector [0x25, 0x10] ⟨0x00, 0x01, 0x01, 0xFD, 0x23⟩ 0x0202 3 [],
    opVector [0x29, 0x10] ⟨0x00, 0x01, 0x01, 0xFD, 0x23⟩ 0x0202 2 [],
    opVector [0x2D, 0x10, 0x03] ⟨0x01, 0x01, 0x01, 0xFD, 0x21⟩ 0x0203 4 [],
    opVector [0x31, 0x10] ⟨0x01, 0x01, 0x01, 0xFD, 0x21⟩ 0x0202 5 [],
    opVector [0x35, 0x10] ⟨0x00, 0x01, 0x01, 0xFD, 0x23⟩ 0x0202 4 [],
    opVector [0x39, 0x10, 0x03] ⟨0x80, 0x01, 0x01, 0xFD, 0xA1⟩ 0x0203 4 [],
    opVector [0x3D, 0x10, 0x03] ⟨0x80, 0x01, 0x01, 0xFD, 0xA1⟩ 0x0203 4 [],
    opVector [0x01, 0x10] ⟨0xC1, 0x01, 0x01, 0xFD, 0xA1⟩ 0x0202 6 [],
    opVector [0x05, 0x10] ⟨0xC1, 0x01, 0x01, 0xFD, 0xA1⟩ 0x0202 3 [],
    opVector [0x09, 0x10] ⟨0x91, 0x01, 0x01, 0xFD, 0xA1⟩ 0x0202 2 [],
    opVector [0x0D, 0x10, 0x03] ⟨0xFF, 0x01, 0x01, 0xFD, 0xA1⟩ 0x0203 4 [],
    opVector [0x11, 0x10] ⟨0x81, 0x01, 0x01, 0xFD, 0xA1⟩ 0x0202 5 [],
    opVector [0x15, 0x10] ⟨0xA1, 0x01, 0x01, 0xFD, 0xA1⟩ 0x0202 4 [],
    opVector [0x19, 0x10, 0x03] ⟨0x81, 0x01, 0x01, 0xFD, 0xA1⟩ 0x0203 4 [],
    opVector [0x1D, 0x10, 0x03] ⟨0x81, 0x01, 0x01, 0xFD, 0xA1⟩ 0x0203 4 [],
    opVector [0x41, 0x10] ⟨0x41, 0x01, 0x01, 0xFD, 0x21⟩ 0x0202 6 [],
    opVector [0x45, 0x10] ⟨0xC1, 0x01, 0x01, 0xFD, 0xA1⟩ 0x0202 3 [],
    opVector [0x49, 0x10] ⟨0x91, 0x01, 0x01, 0xFD, 0xA1⟩ 0x0202 2 [],
    opVector [0x4D, 0x10, 0x03] ⟨0xFE, 0x01, 0x01, 0xFD, 0xA1⟩ 0x0203 4 [],
    opVector [0x51, 0x10] ⟨0x80, 0x01, 0x01, 0xFD, 0xA1⟩ 0x0202 5 [],
    opVector [0x55, 0x10] ⟨0xA1, 0x01, 0x01, 0xFD, 0xA1⟩ 0x0202 4 [],
    opVector [0x59, 0x10, 0x03] ⟨0x01, 0x01, 0x01, 0xFD, 0x21⟩ 0x0203 4 [],
    opVector [0x5D, 0x10, 0x03] ⟨0x01, 0x01, 0x01, 0xFD, 0x21⟩ 0x0203 4 [],
    opVector [0x24, 0x10] ⟨0x81, 0x01, 0x01, 0xFD, 0x63⟩ 0x0202 3 [],
    opVector [0x2C, 0x10, 0x03] ⟨0x81, 0x01, 0x01, 0xFD, 0x61⟩ 0x0203 4 []] := by decide

/-- V-OP: ASL LSR ROL ROR. -/
theorem test_every_opcode_shift_and_rotate : allTrue [
    opVector [0x06, 0x10] ⟨0x81, 0x01, 0x01, 0xFD, 0xA0⟩ 0x0202 5 [(0x0010, 0x80)],
    opVector [0x0A] ⟨0x02, 0x01, 0x01, 0xFD, 0x21⟩ 0x0201 2 [],
    opVector [0x0E, 0x10, 0x03] ⟨0x81, 0x01, 0x01, 0xFD, 0xA0⟩ 0x0203 6 [(0x0310, 0xFE)],
    opVector [0x16, 0x10] ⟨0x81, 0x01, 0x01, 0xFD, 0x20⟩ 0x0202 6 [(0x0011, 0x40)],
    opVector [0x1E, 0x10, 0x03] ⟨0x81, 0x01, 0x01, 0xFD, 0x23⟩ 0x0203 7 [(0x0311, 0x00)],
    opVector [0x46, 0x10] ⟨0x81, 0x01, 0x01, 0xFD, 0x20⟩ 0x0202 5 [(0x0010, 0x20)],
    opVector [0x4A] ⟨0x40, 0x01, 0x01, 0xFD, 0x21⟩ 0x0201 2 [],
    opVector [0x4E, 0x10, 0x03] ⟨0x81, 0x01, 0x01, 0xFD, 0x21⟩ 0x0203 6 [(0x0310, 0x3F)],
    opVector [0x56, 0x10] ⟨0x81, 0x01, 0x01, 0xFD, 0x20⟩ 0x0202 6 [(0x0011, 0x10)],
    opVector [0x5E, 0x10, 0x03] ⟨0x81, 0x01, 0x01, 0xFD, 0x20⟩ 0x0203 7 [(0x0311, 0x40)],
    opVector [0x26, 0x10] ⟨0x81, 0x01, 0x01, 0xFD, 0xA0⟩ 0x0202 5 [(0x0010, 0x81)],
    opVector [0x2A] ⟨0x03, 0x01, 0x01, 0xFD, 0x21⟩ 0x0201 2 [],
    opVector [0x2E, 0x10, 0x03] ⟨0x81, 0x01, 0x01, 0xFD, 0xA0⟩ 0x0203 6 [(0x0310, 0xFF)],
    opVector [0x36, 0x10] ⟨0x81, 0x01, 0x01, 0xFD, 0x20⟩ 0x0202 6 [(0x0011, 0x41)],
    opVector [0x3E, 0x10, 0x03] ⟨0x81, 0x01, 0x01, 0xFD, 0x21⟩ 0x0203 7 [(0x0311, 0x01)],
    opVector [0x66, 0x10] ⟨0x81, 0x01, 0x01, 0xFD, 0xA0⟩ 0x0202 5 [(0x0010, 0xA0)],
    opVector [0x6A] ⟨0xC0, 0x01, 0x01, 0xFD, 0xA1⟩ 0x0201 2 [],
    opVector [0x6E, 0x10, 0x03] ⟨0x81, 0x01, 0x01, 0xFD, 0xA1⟩ 0x0203 6 [(0x0310, 0xBF)],
    opVector [0x76, 0x10] ⟨0x81, 0x01, 0x01, 0xFD, 0xA0⟩ 0x0202 6 [(0x0011, 0x90)],
    opVector [0x7E, 0x10, 0x03] ⟨0x81, 0x01, 0x01, 0xFD, 0xA0⟩ 0x0203 7 [(0x0311, 0xC0)]] := by decide

/-- V-OP: BPL BMI BVC BVS BCC BCS BNE BEQ. -/
theorem test_every_opcode_branch : allTrue [
    opVector [0x10, 0x10] ⟨0x81, 0x01, 0x01, 0xFD, 0x21⟩ 0x0212 3 [],
    opVector [0x30, 0x10] ⟨0x81, 0x01, 0x01, 0xFD, 0x21⟩ 0x0202 2 [],
    opVector [0x50, 0x10] ⟨0x81, 0x01, 0x01, 0xFD, 0x21⟩ 0x0212 3 [],
    opVector [0x70, 0x10] ⟨0x81, 0x01, 0x01, 0xFD, 0x21⟩ 0x0202 2 [],
    opVector [0x90, 0x10] ⟨0x81, 0x01, 0x01, 0xFD, 0x21⟩ 0x0202 2 [],
    opVector [0xB0, 0x10] ⟨0x81, 0x01, 0x01, 0xFD, 0x21⟩ 0x0212 3 [],
    opVector [0xD0, 0x10] ⟨0x81, 0x01, 0x01, 0xFD, 0x21⟩ 0x0212 3 [],
    opVector [0xF0, 0x10] ⟨0x81, 0x01, 0x01, 0xFD, 0x21⟩ 0x0202 2 []] := by decide

/-- V-OP: JMP JSR RTS. -/
theorem test_every_opcode_jump_call_return : allTrue [
    opVector [0x4C, 0x10, 0x03] ⟨0x81, 0x01, 0x01, 0xFD, 0x21⟩ 0x0310 3 [],
    opVector [0x6C, 0x10, 0x03] ⟨0x81, 0x01, 0x01, 0xFD, 0x21⟩ 0x807F 5 [],
    opVector [0x20, 0x10, 0x03] ⟨0x81, 0x01, 0x01, 0xFB, 0x21⟩ 0x0310 6 [(0x01FC, 0x02), (0x01FD, 0x02)],
    opVector [0x60] ⟨0x81, 0x01, 0x01, 0xFF, 0x21⟩ 0x12C4 6 []] := by decide

/-- V-OP: PHA PHP PLA PLP TAX TAY TXA TYA TSX TXS. -/
theorem test_every_opcode_stack_and_transfer : allTrue [
    opVector [0x48] ⟨0x81, 0x01, 0x01, 0xFC, 0x21⟩ 0x0201 3 [(0x01FD, 0x81)],
    opVector [0x08] ⟨0x81, 0x01, 0x01, 0xFC, 0x21⟩ 0x0201 3 [(0x01FD, 0x31)],
    opVector [0x68] ⟨0xC3, 0x01, 0x01, 0xFE, 0xA1⟩ 0x0201 4 [],
    opVector [0x28] ⟨0x81, 0x01, 0x01, 0xFE, 0xE3⟩ 0x0201 4 [],
    opVector [0xAA] ⟨0x81, 0x81, 0x01, 0xFD, 0xA1⟩ 0x0201 2 [],
    opVector [0xA8] ⟨0x81, 0x01, 0x81, 0xFD, 0xA1⟩ 0x0201 2 [],
    opVector [0x8A] ⟨0x01, 0x01, 0x01, 0xFD, 0x21⟩ 0x0201 2 [],
    opVector [0x98] ⟨0x01, 0x01, 0x01, 0xFD, 0x21⟩ 0x0201 2 [],
    opVector [0xBA] ⟨0x81, 0xFD, 0x01, 0xFD, 0xA1⟩ 0x0201 2 [],
    opVector [0x9A] ⟨0x81, 0x01, 0x01, 0x01, 0x21⟩ 0x0201 2 []] := by decide

/-- V-OP: CLC SEC CLI SEI CLD SED CLV NOP BRK RTI. -/
theorem test_every_opcode_flag_and_system : allTrue [
    opVector [0x18] ⟨0x81, 0x01, 0x01, 0xFD, 0x20⟩ 0x0201 2 [],
    opVector [0x38] ⟨0x81, 0x01, 0x01, 0xFD, 0x21⟩ 0x0201 2 [],
    opVector [0x58] ⟨0x81, 0x01, 0x01, 0xFD, 0x21⟩ 0x0201 2 [],
    opVector [0x78] ⟨0x81, 0x01, 0x01, 0xFD, 0x25⟩ 0x0201 2 [],
    opVector [0xD8] ⟨0x81, 0x01, 0x01, 0xFD, 0x21⟩ 0x0201 2 [],
    opVector [0xF8] ⟨0x81, 0x01, 0x01, 0xFD, 0x29⟩ 0x0201 2 [],
    opVector [0xB8] ⟨0x81, 0x01, 0x01, 0xFD, 0x21⟩ 0x0201 2 [],
    opVector [0xEA] ⟨0x81, 0x01, 0x01, 0xFD, 0x21⟩ 0x0201 2 [],
    opVector [0x00] ⟨0x81, 0x01, 0x01, 0xFA, 0x25⟩ 0x9000 7 [(0x01FB, 0x31), (0x01FC, 0x02), (0x01FD, 0x02)],
    opVector [0x40] ⟨0x81, 0x01, 0x01, 0x00, 0xE3⟩ 0x3412 6 []] := by decide

/-- Vectors W1.14, W2.1, W2.2, W2.3, AM8, AM15, AM17, LS1, LS4, LS10, W4.1, W4.2, W4.4. -/
theorem test_load_and_store_corners : allTrue [
    vector ⟨0x00, 0x01, 0x00, 0xFD, 0x20⟩ 0x0200 []
      [0xBD, 0xFF, 0xFF] ⟨0x00, 0x01, 0x00, 0xFD, 0x22⟩ 0x0203 5 [],
    vector ⟨0x00, 0x01, 0x00, 0xFD, 0x20⟩ 0x0200 [(0x0000, 0x11), (0x0100, 0x22)]
      [0xB5, 0xFF] ⟨0x11, 0x01, 0x00, 0xFD, 0x20⟩ 0x0202 4 [],
    vector ⟨0x00, 0x00, 0x01, 0xFD, 0x20⟩ 0x0200 [(0x0000, 0x11), (0x0100, 0x22)]
      [0xB6, 0xFF] ⟨0x00, 0x11, 0x01, 0xFD, 0x20⟩ 0x0202 4 [],
    vector ⟨0x5A, 0xFF, 0x00, 0xFD, 0x20⟩ 0x0200 []
      [0x95, 0x80] ⟨0x5A, 0xFF, 0x00, 0xFD, 0x20⟩ 0x0202 4 [(0x007F, 0x5A)],
    vector ⟨0x00, 0x01, 0x00, 0xFD, 0x20⟩ 0x0200 [(0x0000, 0x55)]
      [0xBD, 0xFF, 0xFF] ⟨0x55, 0x01, 0x00, 0xFD, 0x20⟩ 0x0203 5 [],
    vector ⟨0x00, 0xFF, 0x00, 0xFD, 0x20⟩ 0x0200 [(0x0000, 0x04), (0x00FF, 0x00), (0x0400, 0x99)]
      [0xA1, 0x00] ⟨0x99, 0xFF, 0x00, 0xFD, 0xA0⟩ 0x0202 6 [],
    vector ⟨0x00, 0x00, 0x00, 0xFD, 0x20⟩ 0x0200 [(0x0000, 0x03), (0x00FF, 0x10), (0x0310, 0xBB)]
      [0xB1, 0xFF] ⟨0xBB, 0x00, 0x00, 0xFD, 0xA0⟩ 0x0202 5 [],
    vector ⟨0x00, 0x00, 0x00, 0xFD, 0xC3⟩ 0x0200 []
      [0xA9, 0x00] ⟨0x00, 0x00, 0x00, 0xFD, 0x63⟩ 0x0202 2 [],
    vector ⟨0x00, 0x10, 0x00, 0xFD, 0x20⟩ 0x0200 [(0x0305, 0x00)]
      [0xBC, 0xF5, 0x02] ⟨0x00, 0x10, 0x00, 0xFD, 0x22⟩ 0x0203 5 [],
    vector ⟨0x00, 0x07, 0x02, 0xFD, 0x20⟩ 0x0200 []
      [0x96, 0xFF] ⟨0x00, 0x07, 0x02, 0xFD, 0x20⟩ 0x0202 4 [(0x0001, 0x07)],
    vector ⟨0x00, 0x00, 0x01, 0xFD, 0x20⟩ 0x0400 [(0x0300, 0x33)]
      [0xB9, 0xFF, 0x02] ⟨0x33, 0x00, 0x01, 0xFD, 0x20⟩ 0x0403 5 [],
    vector ⟨0x00, 0x00, 0x01, 0xFD, 0x20⟩ 0x0400 [(0x0201, 0x44)]
      [0xB9, 0x00, 0x02] ⟨0x44, 0x00, 0x01, 0xFD, 0x20⟩ 0x0403 4 [],
    vector ⟨0x00, 0x00, 0x01, 0xFD, 0x20⟩ 0x0400 [(0x0020, 0xFF), (0x0021, 0x02), (0x0300, 0x33)]
      [0xB1, 0x20] ⟨0x33, 0x00, 0x01, 0xFD, 0x20⟩ 0x0402 6 []] := by decide

/-- Vectors AR1, AR2, AR3, AR4, AR5, AR7, AR8, AR9, AR10, AR11. -/
theorem test_binary_addition_and_subtraction : allTrue [
    vector ⟨0x7F, 0x00, 0x00, 0xFD, 0x20⟩ 0x0200 []
      [0x69, 0x01] ⟨0x80, 0x00, 0x00, 0xFD, 0xE0⟩ 0x0202 2 [],
    vector ⟨0xFF, 0x00, 0x00, 0xFD, 0x20⟩ 0x0200 []
      [0x69, 0x01] ⟨0x00, 0x00, 0x00, 0xFD, 0x23⟩ 0x0202 2 [],
    vector ⟨0x80, 0x00, 0x00, 0xFD, 0x20⟩ 0x0200 []
      [0x69, 0x80] ⟨0x00, 0x00, 0x00, 0xFD, 0x63⟩ 0x0202 2 [],
    vector ⟨0x01, 0x00, 0x00, 0xFD, 0x21⟩ 0x0200 []
      [0x69, 0x01] ⟨0x03, 0x00, 0x00, 0xFD, 0x20⟩ 0x0202 2 [],
    vector ⟨0xFF, 0x00, 0x00, 0xFD, 0x21⟩ 0x0200 []
      [0x69, 0xFF] ⟨0xFF, 0x00, 0x00, 0xFD, 0xA1⟩ 0x0202 2 [],
    vector ⟨0x00, 0x00, 0x00, 0xFD, 0x21⟩ 0x0200 []
      [0xE9, 0x01] ⟨0xFF, 0x00, 0x00, 0xFD, 0xA0⟩ 0x0202 2 [],
    vector ⟨0x80, 0x00, 0x00, 0xFD, 0x21⟩ 0x0200 []
      [0xE9, 0x01] ⟨0x7F, 0x00, 0x00, 0xFD, 0x61⟩ 0x0202 2 [],
    vector ⟨0x33, 0x00, 0x00, 0xFD, 0x21⟩ 0x0200 []
      [0xE9, 0x33] ⟨0x00, 0x00, 0x00, 0xFD, 0x23⟩ 0x0202 2 [],
    vector ⟨0x05, 0x00, 0x00, 0xFD, 0x20⟩ 0x0200 []
      [0xE9, 0x03] ⟨0x01, 0x00, 0x00, 0xFD, 0x21⟩ 0x0202 2 [],
    vector ⟨0x7F, 0x00, 0x00, 0xFD, 0x21⟩ 0x0200 []
      [0xE9, 0xFF] ⟨0x80, 0x00, 0x00, 0xFD, 0xE0⟩ 0x0202 2 []] := by decide

/-- Vectors AR12, AR13, AR14, AR15, AR16, AR17, AR18, AR19, AR20, AR21, AR22, AR23. -/
theorem test_decimal_addition_and_subtraction : allTrue [
    vector ⟨0x12, 0x00, 0x00, 0xFD, 0x28⟩ 0x0200 []
      [0x69, 0x34] ⟨0x46, 0x00, 0x00, 0xFD, 0x28⟩ 0x0202 2 [],
    vector ⟨0x99, 0x00, 0x00, 0xFD, 0x28⟩ 0x0200 []
      [0x69, 0x01] ⟨0x00, 0x00, 0x00, 0xFD, 0xA9⟩ 0x0202 2 [],
    vector ⟨0x58, 0x00, 0x00, 0xFD, 0x29⟩ 0x0200 []
      [0x69, 0x46] ⟨0x05, 0x00, 0x00, 0xFD, 0xE9⟩ 0x0202 2 [],
    vector ⟨0x81, 0x00, 0x00, 0xFD, 0x28⟩ 0x0200 []
      [0x69, 0x92] ⟨0x73, 0x00, 0x00, 0xFD, 0x69⟩ 0x0202 2 [],
    vector ⟨0x79, 0x00, 0x00, 0xFD, 0x29⟩ 0x0200 []
      [0x69, 0x00] ⟨0x80, 0x00, 0x00, 0xFD, 0xE8⟩ 0x0202 2 [],
    vector ⟨0x09, 0x00, 0x00, 0xFD, 0x28⟩ 0x0200 []
      [0x69, 0x01] ⟨0x10, 0x00, 0x00, 0xFD, 0x28⟩ 0x0202 2 [],
    vector ⟨0x0F, 0x00, 0x00, 0xFD, 0x28⟩ 0x0200 []
      [0x69, 0x00] ⟨0x15, 0x00, 0x00, 0xFD, 0x28⟩ 0x0202 2 [],
    vector ⟨0x46, 0x00, 0x00, 0xFD, 0x29⟩ 0x0200 []
      [0xE9, 0x12] ⟨0x34, 0x00, 0x00, 0xFD, 0x29⟩ 0x0202 2 [],
    vector ⟨0x00, 0x00, 0x00, 0xFD, 0x29⟩ 0x0200 []
      [0xE9, 0x01] ⟨0x99, 0x00, 0x00, 0xFD, 0xA8⟩ 0x0202 2 [],
    vector ⟨0x12, 0x00, 0x00, 0xFD, 0x29⟩ 0x0200 []
      [0xE9, 0x21] ⟨0x91, 0x00, 0x00, 0xFD, 0xA8⟩ 0x0202 2 [],
    vector ⟨0x32, 0x00, 0x00, 0xFD, 0x28⟩ 0x0200 []
      [0xE9, 0x02] ⟨0x29, 0x00, 0x00, 0xFD, 0x29⟩ 0x0202 2 [],
    vector ⟨0x50, 0x00, 0x00, 0xFD, 0x29⟩ 0x0200 []
      [0xE9, 0x50] ⟨0x00, 0x00, 0x00, 0xFD, 0x2B⟩ 0x0202 2 []] := by decide

/-- Vectors AR24, AR26, AR27, AR28, AR30, AR34, AR35, AR37. -/
theorem test_compares_and_increments : allTrue [
    vector ⟨0x10, 0x00, 0x00, 0xFD, 0x20⟩ 0x0200 []
      [0xC9, 0x10] ⟨0x10, 0x00, 0x00, 0xFD, 0x23⟩ 0x0202 2 [],
    vector ⟨0x80, 0x00, 0x00, 0xFD, 0x20⟩ 0x0200 []
      [0xC9, 0x00] ⟨0x80, 0x00, 0x00, 0xFD, 0xA1⟩ 0x0202 2 [],
    vector ⟨0x10, 0x00, 0x00, 0xFD, 0x28⟩ 0x0200 []
      [0xC9, 0x09] ⟨0x10, 0x00, 0x00, 0xFD, 0x29⟩ 0x0202 2 [],
    vector ⟨0x00, 0x05, 0x00, 0xFD, 0x20⟩ 0x0200 []
      [0xE0, 0x0A] ⟨0x00, 0x05, 0x00, 0xFD, 0xA0⟩ 0x0202 2 [],
    vector ⟨0x00, 0x00, 0x00, 0xFD, 0x20⟩ 0x0200 [(0x0010, 0xFF)]
      [0xE6, 0x10] ⟨0x00, 0x00, 0x00, 0xFD, 0x22⟩ 0x0202 5 [(0x0010, 0x00)],
    vector ⟨0x00, 0x01, 0x00, 0xFD, 0x20⟩ 0x0200 [(0x0011, 0x01)]
      [0xD6, 0x10] ⟨0x00, 0x01, 0x00, 0xFD, 0x22⟩ 0x0202 6 [(0x0011, 0x00)],
    vector ⟨0x00, 0xFF, 0x00, 0xFD, 0x20⟩ 0x0200 []
      [0xE8] ⟨0x00, 0x00, 0x00, 0xFD, 0x22⟩ 0x0201 2 [],
    vector ⟨0x00, 0x00, 0x00, 0xFD, 0x20⟩ 0x0200 []
      [0xCA] ⟨0x00, 0xFF, 0x00, 0xFD, 0xA0⟩ 0x0201 2 []] := by decide

/-- Vectors LG2, LG6, LG7, LG8. -/
theorem test_logical_corners : allTrue [
    vector ⟨0x0F, 0x00, 0x00, 0xFD, 0x20⟩ 0x0200 []
      [0x29, 0xF0] ⟨0x00, 0x00, 0x00, 0xFD, 0x22⟩ 0x0202 2 [],
    vector ⟨0xFF, 0x00, 0x01, 0xFD, 0x20⟩ 0x0200 [(0x0020, 0xFF), (0x0021, 0x02), (0x0300, 0x81)]
      [0x31, 0x20] ⟨0x81, 0x00, 0x01, 0xFD, 0xA0⟩ 0x0202 6 [],
    vector ⟨0x01, 0x00, 0x00, 0xFD, 0x20⟩ 0x0200 [(0x0010, 0xC0)]
      [0x24, 0x10] ⟨0x01, 0x00, 0x00, 0xFD, 0xE2⟩ 0x0202 3 [],
    vector ⟨0x41, 0x00, 0x00, 0xFD, 0xC2⟩ 0x0200 [(0x0300, 0x01)]
      [0x2C, 0x00, 0x03] ⟨0x41, 0x00, 0x00, 0xFD, 0x20⟩ 0x0203 4 []] := by decide

/-- Vectors SH2, SH3, SH5, SH6, SH7, SH8. -/
theorem test_shift_corners : allTrue [
    vector ⟨0x00, 0x00, 0x00, 0xFD, 0x20⟩ 0x0200 [(0x0010, 0x80)]
      [0x06, 0x10] ⟨0x00, 0x00, 0x00, 0xFD, 0x23⟩ 0x0202 5 [(0x0010, 0x00)],
    vector ⟨0x01, 0x00, 0x00, 0xFD, 0x20⟩ 0x0200 []
      [0x4A] ⟨0x00, 0x00, 0x00, 0xFD, 0x23⟩ 0x0201 2 [],
    vector ⟨0x40, 0x00, 0x00, 0xFD, 0x21⟩ 0x0200 []
      [0x2A] ⟨0x81, 0x00, 0x00, 0xFD, 0xA0⟩ 0x0201 2 [],
    vector ⟨0x80, 0x00, 0x00, 0xFD, 0x20⟩ 0x0200 []
      [0x2A] ⟨0x00, 0x00, 0x00, 0xFD, 0x23⟩ 0x0201 2 [],
    vector ⟨0x01, 0x00, 0x00, 0xFD, 0x21⟩ 0x0200 []
      [0x6A] ⟨0x80, 0x00, 0x00, 0xFD, 0xA1⟩ 0x0201 2 [],
    vector ⟨0x00, 0x01, 0x00, 0xFD, 0x21⟩ 0x0200 [(0x0300, 0x00)]
      [0x7E, 0xFF, 0x02] ⟨0x00, 0x01, 0x00, 0xFD, 0xA0⟩ 0x0203 7 [(0x0300, 0x80)]] := by decide

/-- Vectors W6.1, W6.3, W6.4, W6.6, BR27, BR28. -/
theorem test_branch_corners : allTrue [
    vector ⟨0x00, 0x00, 0x00, 0xFD, 0x22⟩ 0x0200 []
      [0xD0, 0x10] ⟨0x00, 0x00, 0x00, 0xFD, 0x22⟩ 0x0202 2 [],
    vector ⟨0x00, 0x00, 0x00, 0xFD, 0x20⟩ 0x02FD []
      [0xD0, 0x01] ⟨0x00, 0x00, 0x00, 0xFD, 0x20⟩ 0x0300 4 [],
    vector ⟨0x00, 0x00, 0x00, 0xFD, 0x20⟩ 0x02FE []
      [0xD0, 0xFF] ⟨0x00, 0x00, 0x00, 0xFD, 0x20⟩ 0x02FF 4 [],
    vector ⟨0x00, 0x00, 0x00, 0xFD, 0x20⟩ 0x02FD []
      [0xD0, 0x81] ⟨0x00, 0x00, 0x00, 0xFD, 0x20⟩ 0x0280 3 [],
    vector ⟨0x00, 0x00, 0x00, 0xFD, 0x20⟩ 0xFFFE []
      [0x90, 0x01] ⟨0x00, 0x00, 0x00, 0xFD, 0x20⟩ 0x0001 3 [],
    vector ⟨0x00, 0x00, 0x00, 0xFD, 0x20⟩ 0x0002 []
      [0x90, 0xF0] ⟨0x00, 0x00, 0x00, 0xFD, 0x20⟩ 0xFFF4 4 []] := by decide

/-- Vectors AM12, AM13, CT4, CT6, CT7. -/
theorem test_jump_corners : allTrue [
    vector ⟨0x00, 0x00, 0x00, 0xFD, 0x20⟩ 0x0400 [(0x0200, 0x80), (0x02FF, 0x00), (0x0300, 0x90)]
      [0x6C, 0xFF, 0x02] ⟨0x00, 0x00, 0x00, 0xFD, 0x20⟩ 0x8000 5 [],
    vector ⟨0x00, 0x00, 0x00, 0xFD, 0x20⟩ 0x0400 [(0x0000, 0x99), (0xFF00, 0x12), (0xFFFF, 0x34)]
      [0x6C, 0xFF, 0xFF] ⟨0x00, 0x00, 0x00, 0xFD, 0x20⟩ 0x1234 5 [],
    vector ⟨0x00, 0x00, 0x00, 0x00, 0x20⟩ 0x0600 []
      [0x20, 0x00, 0x80] ⟨0x00, 0x00, 0x00, 0xFE, 0x20⟩ 0x8000 6 [(0x0100, 0x06), (0x01FF, 0x02)],
    vector ⟨0x00, 0x00, 0x00, 0xFB, 0x20⟩ 0x0200 [(0x01FC, 0xFF), (0x01FD, 0xFF)]
      [0x60] ⟨0x00, 0x00, 0x00, 0xFD, 0x20⟩ 0x0000 6 [],
    vector ⟨0x00, 0x00, 0x00, 0xFF, 0x20⟩ 0x0200 [(0x0100, 0x10), (0x0101, 0x03)]
      [0x60] ⟨0x00, 0x00, 0x00, 0x01, 0x20⟩ 0x0311 6 []] := by decide

/-- Vectors ST2, ST4, ST6, ST8, ST9, ST15. -/
theorem test_stack_corners : allTrue [
    vector ⟨0x42, 0x00, 0x00, 0x00, 0x20⟩ 0x0200 []
      [0x48] ⟨0x42, 0x00, 0x00, 0xFF, 0x20⟩ 0x0201 3 [(0x0100, 0x42)],
    vector ⟨0x00, 0x00, 0x00, 0xFD, 0xEF⟩ 0x0200 []
      [0x08] ⟨0x00, 0x00, 0x00, 0xFC, 0xEF⟩ 0x0201 3 [(0x01FD, 0xFF)],
    vector ⟨0x00, 0x00, 0x00, 0xFF, 0x20⟩ 0x0200 [(0x0100, 0x80)]
      [0x68] ⟨0x80, 0x00, 0x00, 0x00, 0xA0⟩ 0x0201 4 [],
    vector ⟨0x00, 0x00, 0x00, 0xFC, 0x20⟩ 0x0200 [(0x01FD, 0xFF)]
      [0x28] ⟨0x00, 0x00, 0x00, 0xFD, 0xEF⟩ 0x0201 4 [],
    vector ⟨0x00, 0x00, 0x00, 0xFC, 0xEF⟩ 0x0200 [(0x01FD, 0x00)]
      [0x28] ⟨0x00, 0x00, 0x00, 0xFD, 0x20⟩ 0x0201 4 [],
    vector ⟨0x00, 0x00, 0x00, 0xFD, 0x20⟩ 0x0200 []
      [0x9A] ⟨0x00, 0x00, 0x00, 0x00, 0x20⟩ 0x0201 2 []] := by decide

/-- Vectors FS9, FS10, FS11, FS12. -/
theorem test_brk_and_rti : allTrue [
    vector ⟨0x00, 0x00, 0x00, 0xFD, 0x20⟩ 0x0600 [(0xFFFE, 0x00), (0xFFFF, 0x90)]
      [0x00] ⟨0x00, 0x00, 0x00, 0xFA, 0x24⟩ 0x9000 7 [(0x01FB, 0x30), (0x01FC, 0x02), (0x01FD, 0x06)],
    vector ⟨0x00, 0x00, 0x00, 0xFD, 0x2C⟩ 0x0600 [(0xFFFE, 0x00), (0xFFFF, 0x90)]
      [0x00] ⟨0x00, 0x00, 0x00, 0xFA, 0x2C⟩ 0x9000 7 [(0x01FB, 0x3C), (0x01FC, 0x02), (0x01FD, 0x06)],
    vector ⟨0x00, 0x00, 0x00, 0xFA, 0x20⟩ 0x0200 [(0x01FB, 0x30), (0x01FC, 0x02), (0x01FD, 0x06)]
      [0x40] ⟨0x00, 0x00, 0x00, 0xFD, 0x20⟩ 0x0602 6 [],
    vector ⟨0x00, 0x00, 0x00, 0xFA, 0x20⟩ 0x0200 [(0x01FB, 0xFF), (0x01FC, 0x34), (0x01FD, 0x12)]
      [0x40] ⟨0x00, 0x00, 0x00, 0xFD, 0xEF⟩ 0x1234 6 []] := by decide

/-- The bus transactions of the step from a state. -/
def busOf (s : State) : List BusAccess :=
  match step s with
  | .next t => t.bus
  | .fault _ | .refused _ => []

/-- Vectors BUS1, BUS2, BUS3, BUS4, BUS5, BUS6, BUS7, BUS8, BUS9, BUS11, BUS12. -/
theorem test_bus_transactions :
    busOf (start ⟨0x11, 0x00, 0x00, 0xFD, 0x20⟩ 0x0200 [] [0x8D, 0x00, 0x03]) =
      [.read 0x0200, .read 0x0201, .read 0x0202, .write 0x0300 0x11] ∧
    busOf (start ⟨0x00, 0x00, 0x00, 0xFD, 0x20⟩ 0x0200 [(0x0010, 0x41)] [0xE6, 0x10]) =
      [.read 0x0200, .read 0x0201, .read 0x0010, .write 0x0010 0x42] ∧
    busOf (start ⟨0x00, 0x01, 0x00, 0xFD, 0x20⟩ 0x0200 [(0x0300, 0x81)] [0x1E, 0xFF, 0x02]) =
      [.read 0x0200, .read 0x0201, .read 0x0202, .read 0x0300, .write 0x0300 0x02] ∧
    busOf (start ⟨0x02, 0x00, 0x00, 0xFD, 0x20⟩ 0x0200 [] [0x6A]) =
      [.read 0x0200] ∧
    busOf (start ⟨0x00, 0x00, 0x00, 0xFD, 0x20⟩ 0x0200 [] [0x4C, 0x00, 0x90]) =
      [.read 0x0200, .read 0x0201, .read 0x0202] ∧
    busOf (start ⟨0x00, 0x00, 0x00, 0xFD, 0x20⟩ 0x0600 [] [0x20, 0x00, 0x80]) =
      [.read 0x0600, .read 0x0601, .read 0x0602, .write 0x01FD 0x06, .write 0x01FC 0x02] ∧
    busOf (start ⟨0x00, 0x00, 0x00, 0xFB, 0x20⟩ 0x0200 [(0x01FC, 0x02), (0x01FD, 0x06)] [0x60]) =
      [.read 0x0200, .read 0x01FC, .read 0x01FD] ∧
    busOf (start ⟨0x00, 0x00, 0x00, 0xFD, 0x20⟩ 0x0600 [(0xFFFE, 0x00), (0xFFFF, 0x90)] [0x00]) =
      [.read 0x0600, .write 0x01FD 0x06, .write 0x01FC 0x02, .write 0x01FB 0x30, .read 0xFFFE, .read 0xFFFF] ∧
    busOf (start ⟨0x00, 0x00, 0x00, 0xFA, 0x20⟩ 0x0200 [(0x01FB, 0x30), (0x01FC, 0x02), (0x01FD, 0x06)] [0x40]) =
      [.read 0x0200, .read 0x01FB, .read 0x01FC, .read 0x01FD] ∧
    busOf (start ⟨0xFF, 0x00, 0x00, 0xFD, 0x20⟩ 0x0200 [(0x0010, 0x80)] [0x24, 0x10]) =
      [.read 0x0200, .read 0x0201, .read 0x0010] ∧
    busOf (start ⟨0x40, 0x00, 0x01, 0xFD, 0x20⟩ 0x0200 [(0x0300, 0x40)] [0xD9, 0xFF, 0x02]) =
      [.read 0x0200, .read 0x0201, .read 0x0202, .read 0x0300] := by decide

/-- A state for the interrupt vectors: NOP at 0x0200, the NMI handler at 0x8000, the IRQ handler at 0x9000. -/
def interrupted (p : Byte) (nmi irq : Bool) : State :=
  { start ⟨0x00, 0x00, 0x00, 0xFD, p⟩ 0x0200 [(0xFFFB, 0x80), (0xFFFF, 0x90)] [0xEA] with nmiPending := nmi, irqLine := irq }

/-- Vectors IN1 to IN4 and IN10, and the priority of IN5. -/
theorem test_interrupts :
    gives (interrupted 0x24 false true) ⟨0x00, 0x00, 0x00, 0xFD, 0x24⟩ 0x0201 2 [] = true ∧
    gives (interrupted 0x20 false true) ⟨0x00, 0x00, 0x00, 0xFA, 0x24⟩ 0x9000 7
      [(0x01FB, 0x20), (0x01FC, 0x00), (0x01FD, 0x02)] = true ∧
    gives (interrupted 0xC3 false true) ⟨0x00, 0x00, 0x00, 0xFA, 0xE7⟩ 0x9000 7
      [(0x01FB, 0xE3), (0x01FC, 0x00), (0x01FD, 0x02)] = true ∧
    gives (interrupted 0x24 true false) ⟨0x00, 0x00, 0x00, 0xFA, 0x24⟩ 0x8000 7
      [(0x01FB, 0x24), (0x01FC, 0x00), (0x01FD, 0x02)] = true ∧
    gives (interrupted 0x28 true true) ⟨0x00, 0x00, 0x00, 0xFA, 0x2C⟩ 0x8000 7
      [(0x01FB, 0x28), (0x01FC, 0x00), (0x01FD, 0x02)] = true ∧
    (hostStep (interrupted 0x28 true true)).1.nmiPending = false := by decide

/-- Vectors W7.2, DF1 and DF5: the record, PC past the opcode, no cycles, and the same fault from then on. -/
theorem test_decode_fault :
    (let s := start ⟨0x00, 0x00, 0x00, 0xFD, 0x20⟩ 0x1234 [] [0xFF]
     (hostStep s).2 = .err (some ⟨0xFF, 0x1234⟩) ∧ (hostStep s).1.pc = 0x1235 ∧ (hostStep s).1.loopState = .halted) ∧
    (let s := start ⟨0x00, 0x00, 0x00, 0xFD, 0x20⟩ 0xFFFF [] [0x02]
     (hostStep s).1.pc = 0x0000 ∧ (hostStep s).1.cycleTotal = 0 ∧ busOf s = [.read 0xFFFF]) ∧
    (let t := (hostStep (start ⟨0x00, 0x00, 0x00, 0xFD, 0x20⟩ 0x0200 [] [0x80])).1
     hostStep t = (t, .err (some ⟨0x80, 0x0200⟩))) := by decide

/-- Vector RS1: reset from a used, halted state. -/
theorem test_reset :
    (let s : State :=
      { start ⟨0x12, 0x34, 0x56, 0x10, 0xDB⟩ 0x1234 [(0xFFFD, 0xC0)] [] with
        loopState := .halted, fault := some ⟨0x02, 0x1233⟩, nmiPending := true, irqLine := true, cycleTotal := 100 }
     inspect (hostReset s) =
        ⟨0x12, 0x34, 0x56, 0xC000, 0xFD, 0xEF, .fetching, none, false, true, 0⟩ ∧
      (hostReset s).mem = s.mem ∧ (hostReset s).bus = [.read 0xFFFC, .read 0xFFFD]) := by decide

/-- Vectors LS7 and AR32: the page penalty of stores and read-modify-writes when PAGE_PENALTY_ON_STORE_RMW is set. -/
theorem test_store_page_penalty :
    gives { start ⟨0x42, 0x01, 0x00, 0xFD, 0x20⟩ 0x0400 [] [0x9D, 0xFF, 0x02] with params := ⟨0xFD, true⟩ }
      ⟨0x42, 0x01, 0x00, 0xFD, 0x20⟩ 0x0403 6 [(0x0300, 0x42)] = true ∧
    gives { start ⟨0x00, 0x01, 0x00, 0xFD, 0x20⟩ 0x0400 [(0x0300, 0x7F)] [0xFE, 0xFF, 0x02] with params := ⟨0xFD, true⟩ }
      ⟨0x00, 0x01, 0x00, 0xFD, 0xA0⟩ 0x0403 8 [(0x0300, 0x80)] = true := by decide

/-- A placed word runs as the first instruction after reset: LDA absolute in 4 cycles, NOP with PC 0x0001 after it. -/
theorem test_placed_word_runs_after_reset :
    (hostStep (State.reset.withFetchWord 24 0x379CAD)).2 = .ok 4 ∧
      (hostStep (State.reset.withFetchWord 8 0xEA)).1.pc = 0x0001 := by decide

/-- The reset state is in canonical form, and its memory lists nothing. -/
theorem test_reset_memory : State.reset.mem.wf = true ∧ State.reset.mem = [] := by decide

/-! ### Witnesses: for each statement with hypotheses, a state that meets them -/

/-- An answer that is a next state, as a Boolean. -/
def isNext (r : Answer) : Bool :=
  match r with
  | .next _ => true
  | .fault _ | .refused _ => false

theorem exists_next {r : Answer} (h : isNext r = true) : ∃ t, r = .next t := by
  cases r with
  | next t => exact ⟨t, rfl⟩
  | fault _ => cases h
  | refused _ => cases h

/-- Registers at boundary values, PC at the top of memory, SP at 0, and code that wraps past 0xFFFF. -/
def edge (code : List Byte) : State := start ⟨0x80, 0x01, 0xFF, 0x00, 0x20⟩ 0xFFFF [(0x0080, 0x7F)] code

/-- The state of `edge` in decimal mode with A = 0x99. -/
def decimalEdge : State := { edge [0x69, 0x01] with a := 0x99, p := Status.load 0x29 }

/-- A halted state. -/
def haltedState : State := { edge [0x02] with loopState := .halted, fault := some ⟨0x02, 0xFFFE⟩ }

/-- The state of `edge` with PC at the stack byte. -/
def stackEdge : State := { edge [] with pc := 0x0100 }

theorem witness_DecimalAdcAddsBcd : 99 < 100 ∧ 99 < 100 ∧ decimalEdge.p.d = true ∧ decimalEdge.a = bcd 99 := by
  decide

theorem witness_DecimalSbcSubtractsBcd : 99 < 100 ∧ 0 < 100 ∧ decimalEdge.p.d = true ∧ decimalEdge.a = bcd 99 := by
  decide

theorem witness_UnlistedFlagsKeepTheirValue :
    (∃ t, exec (.staAbsolute 0xFFFF) (edge []) = .next t) ∧
      ∀ f ∈ [Flag.carry, .zero, .interrupt, .decimal, .break_, .overflow, .negative],
        (Instr.staAbsolute 0xFFFF).mnemonic ∉ flagWriters f :=
  ⟨exists_next (by decide), by decide⟩

theorem witness_RegistersChangeOnlyByTheirWriters :
    (∃ t, exec (.staZeroPage 0xFF) (edge []) = .next t) ∧ Mnemonic.sta ∉ [Mnemonic.lda, .adc, .sbc, .and, .ora, .eor, .pla, .txa, .tya] ∧
      (Instr.staZeroPage 0xFF).mode ≠ .accumulator ∧ Mnemonic.sta ∉ [Mnemonic.ldx, .tax, .tsx, .inx, .dex] ∧
      Mnemonic.sta ∉ [Mnemonic.ldy, .tay, .iny, .dey] ∧
      Mnemonic.sta ∉ [Mnemonic.txs, .pha, .php, .pla, .plp, .jsr, .rts, .brk, .rti] :=
  ⟨exists_next (by decide), by decide, by decide, by decide, by decide, by decide⟩

theorem witness_NonStoringFormsKeepMemory :
    (∃ t, exec (.cmpZeroPage 0x80) (edge []) = .next t) ∧ Mnemonic.cmp ∉ storers ∧ Mnemonic.cmp ∉ pushers ∧
      (∃ t, exec .aslAccumulator (edge []) = .next t) ∧ Instr.aslAccumulator.mode = .accumulator ∧ Mnemonic.asl ∉ pushers :=
  ⟨exists_next (by decide), by decide, by decide, exists_next (by decide), rfl, by decide⟩

theorem witness_StoringFormsTouchOneByte :
    (∃ t, exec (.staAbsoluteX 0xFFFF) (edge []) = .next t) ∧ (Instr.staAbsoluteX 0xFFFF).mnemonic = .sta ∧
      Mnemonic.sta ∈ storers ∧ (Instr.staAbsoluteX 0xFFFF).operand = some (.absoluteX 0xFFFF) ∧
      (∃ t, exec (.stxZeroPageY 0x01) (edge []) = .next t) ∧ Mnemonic.stx ∈ storers ∧
      (Instr.stxZeroPageY 0x01).operand = some (.zeroPageY 0x01) ∧
      (∃ t, exec (.styZeroPage 0xFF) (edge []) = .next t) ∧ Mnemonic.sty ∈ storers ∧
      (Instr.styZeroPage 0xFF).operand = some (.zeroPage 0xFF) ∧
      effectiveAddress (.absoluteX 0xFFFF) (edge []) = 0x0000 ∧ effectiveAddress (.zeroPageY 0x01) (edge []) = 0x0000 :=
  ⟨exists_next (by decide), rfl, by decide, rfl, exists_next (by decide), by decide, rfl,
    exists_next (by decide), by decide, rfl, by decide, by decide⟩

theorem witness_PushesTouchOnlyTheirStackBytes :
    (∃ t, exec .pha (edge []) = .next t) ∧ (∃ t, exec .php (edge []) = .next t) ∧
      (∃ t, exec (.jsr 0xFFFF) (edge []) = .next t) ∧ (∃ t, exec .brk (edge []) = .next t) ∧
      (0x0101 : Word) ≠ stackByte 0x00 ∧ (0x0101 : Word) ≠ stackByte 0xFF ∧ (0x0101 : Word) ≠ stackByte 0xFE :=
  ⟨exists_next (by decide), exists_next (by decide), exists_next (by decide),
    exists_next (by decide), by decide, by decide, by decide⟩

theorem witness_CycleCountOfEveryInstruction :
    (∃ t, exec (.ldaAbsoluteX 0xFFFF) (edge []) = .next t) ∧ pageCycles (.ldaAbsoluteX 0xFFFF) (edge []) = 1 ∧
      (∃ t, exec (.bne 0x80) (edge []) = .next t) ∧ cyclesExtra (.bne 0x80) (edge []) = 1 ∧
      cyclesExtra (.bne 0x01) (edge []) = 2 :=
  ⟨exists_next (by decide), by decide, exists_next (by decide), by decide,
    by decide⟩

theorem witness_InstructionsCostTwoToEightCycles :
    ∃ t, exec (.incAbsoluteX 0x02FF) { edge [] with params := ⟨0xFD, true⟩ } = .next t :=
  exists_next (by decide)

theorem witness_StepRunsTheDecodedInstruction :
    Running (edge [0xBD, 0x34, 0x12]) ∧
      decode (bytesAtPc (edge [0xBD, 0x34, 0x12])) = .ok (.ldaAbsoluteX 0x1234, []) :=
  ⟨⟨rfl, rfl, .inl rfl⟩, by decide⟩

theorem witness_InvalidOpcodeHalts :
    Running (edge [0x02]) ∧ (edge [0x02]).byteAt (edge [0x02]).pc ∈ invalidOpcodes ∧
      Running (edge [0xFF]) ∧ (edge [0xFF]).byteAt (edge [0xFF]).pc ∈ invalidOpcodes :=
  ⟨⟨rfl, rfl, .inl rfl⟩, by decide, ⟨rfl, rfl, .inl rfl⟩, by decide⟩

theorem witness_HaltedStepsChangeNothing : haltedState.loopState = .halted := rfl

theorem witness_InterruptEntryAndPriority :
    (interrupted 0x24 true true).loopState = .fetching ∧ (interrupted 0x24 true true).nmiPending = true ∧
      (interrupted 0x20 false true).loopState = .fetching ∧ (interrupted 0x20 false true).nmiPending = false ∧
      (interrupted 0x20 false true).irqLine = true ∧ (interrupted 0x20 false true).p.i = false ∧
      (interrupted 0x24 false true).loopState = .fetching ∧ (interrupted 0x24 false true).nmiPending = false ∧
      (interrupted 0x24 false true).p.i = true := by decide

theorem witness_CliLetsIrqInAtTheNextBoundary :
    let s := poke 0x0200 0x58 (interrupted 0x24 false true)
    Running s ∧ s.irqLine = true ∧ s.byteAt s.pc = 0x58 :=
  ⟨⟨rfl, rfl, .inr rfl⟩, rfl, by decide⟩

theorem witness_StepAnswersNextExactlyInFetching :
    (edge [0x02]).loopState = .fetching ∧ haltedState.loopState = .halted := ⟨rfl, rfl⟩

theorem witness_StepKeepsInvariant : StateInv (edge [0x02]) ∧ ∃ t, step (edge [0x02]) = .next t :=
  ⟨⟨by decide, rfl, by decide⟩, exists_next (by decide)⟩

theorem witness_HostOperationsKeepInvariant :
    StateInv haltedState ∧ haltedState.mem.wf = true ∧ StateInv (edge [0xEA, 0x02]) ∧
      ∃ r, RunsUntilHalt (edge [0xEA, 0x02]) r :=
  ⟨⟨by decide, rfl, by decide⟩, by decide, ⟨by decide, by decide, by decide⟩, _, 2, rfl, by decide⟩

theorem witness_MemoryIsTheReplayOfTheBusWrites :
    (∃ t, step (edge [0x48]) = .next t) ∧ busOf (edge [0x48]) = [.read 0xFFFF, .write 0x0100 0x80] :=
  ⟨exists_next (by decide), by decide⟩

theorem witness_StepReadsNoCycleTotal :
    (∃ t, step (edge [0x02]) = .next t) ∧ step haltedState = .fault (.halted (some ⟨0x02, 0xFFFE⟩)) :=
  ⟨exists_next (by decide), rfl⟩

theorem witness_BreakBitIsNeverRead :
    (∃ t, step (edge [0x08]) = .next t) ∧ step haltedState = .fault (.halted (some ⟨0x02, 0xFFFE⟩)) :=
  ⟨exists_next (by decide), rfl⟩

theorem witness_PcAdvancesByTheInstructionLength :
    Running (edge [0xAD, 0x00, 0x00]) ∧ decode (bytesAtPc (edge [0xAD, 0x00, 0x00])) = .ok (.ldaAbsolute 0x0000, []) ∧
      Mnemonic.lda ∉ transfers ∧ ∃ t, step (edge [0xAD, 0x00, 0x00]) = .next t :=
  ⟨⟨rfl, rfl, .inl rfl⟩, by decide, by decide, exists_next (by decide)⟩

theorem witness_StoredByteIsTheNextOpcode :
    (∃ t, step (edge [0x85, 0x01]) = .next t ∧ t.pc = 0x0001 ∧
      t.bus = [.read 0xFFFF, .read 0x0000] ++ .write t.pc 0x80 :: [] ∧ Running t ∧ 0x80 ∈ invalidOpcodes ∧
      (bytesAtPc t).head? = some 0x80) ∧
    effectiveAddress (.absolute 0xFFFF) (edge []) = (edge []).pc ∧
    (∃ t, exec (.staAbsolute 0xFFFF) (edge []) = .next t ∧ (Instr.staAbsolute 0xFFFF).mnemonic ∈ storers) ∧
    (∃ t, exec (.stxAbsolute 0xFFFF) (edge []) = .next t ∧ (Instr.stxAbsolute 0xFFFF).mnemonic ∈ storers ∧ Running t ∧
      decode (bytesAtPc t) = .ok (.oraIndexedIndirectX 0x00, [0x00])) ∧
    (∃ t, exec (.styAbsolute 0xFFFF) (edge []) = .next t ∧ (Instr.styAbsolute 0xFFFF).mnemonic ∈ storers) ∧
    (∃ t, exec (.incAbsolute 0xFFFF) (edge []) = .next t ∧ (Instr.incAbsolute 0xFFFF).mnemonic ∈ storers) ∧
    stackByte stackEdge.sp = stackEdge.pc :=
  ⟨⟨_, rfl, by decide, by decide, ⟨rfl, rfl, .inl rfl⟩, by decide, by decide⟩, by decide, ⟨_, rfl, by decide⟩,
    ⟨_, rfl, by decide, ⟨rfl, rfl, .inl rfl⟩, by decide⟩, ⟨_, rfl, by decide⟩, ⟨_, rfl, by decide⟩, by decide⟩

theorem witness_RtiUndoesAnInterruptEntry :
    (interrupted 0xEF true false).loopState = .fetching ∧ (interrupted 0xEF true false).p.b = false ∧
      (interrupted 0xEF true false).nmiPending = true ∧ (∃ t, step (interrupted 0xEF true false) = .next t) ∧
      (interrupted 0xEB false true).irqLine = true ∧ (interrupted 0xEB false true).p.i = false ∧
      (interrupted 0xEB false true).p.b = false ∧ ∃ t, step (interrupted 0xEB false true) = .next t :=
  ⟨rfl, by decide, rfl, exists_next (by decide), rfl, by decide, by decide,
    exists_next (by decide)⟩

theorem witness_StackRoundTrips : (edge []).sp = 0x00 ∧ (edge []).p.b = false := by decide

theorem witness_EncodeInvertsDecode :
    decode [0x6C, 0xFF, 0x02, 0xEA] = .ok (.jmpIndirect 0x02FF, [0xEA]) ∧ decode [0xEA] = .ok (.nop, []) := by
  decide

theorem witness_DescriptorsMatchInstructions :
    Instr.nop.operand = none ∧ Instr.aslAccumulator.operand = none ∧ (Instr.bne 0x80).operand ≠ none := by decide

theorem witness_PlacedWordRunsNext :
    decodeTableWord 24 0xFFFFFE = some (.incAbsoluteX 0xFFFF) ∧ decodeTableWord 8 0x00 = some .brk := by decide

theorem witness_LoadWritesBytesInOrder :
    ([0x11, 0x22] : List Byte).length ≤ 65536 ∧ 1 < ([0x11, 0x22] : List Byte).length ∧
      (0xFFFF : Word) + BitVec.ofNat 16 1 = 0x0000 ∧ ∀ i, i < 2 → (0x0001 : Word) ≠ 0xFFFF + BitVec.ofNat 16 i := by
  decide

theorem witness_RunIsRepeatedStep :
    (∃ t, step (edge [0xEA]) = .next t) ∧ haltedState.loopState = .halted ∧
      (∃ t, hostStep (edge [0xEA]) = (t, .ok 2)) ∧ (∃ t, hostStep (edge [0x02]) = (t, .err (some ⟨0x02, 0xFFFF⟩))) ∧
      (run 1 (edge [0xEA])).stopped = none ∧ (run 2 (edge [0xEA, 0x02])).stopped = some (some ⟨0x02, 0x0000⟩) :=
  ⟨⟨_, rfl⟩, rfl, ⟨_, by rfl⟩, ⟨_, by rfl⟩, by decide, by decide⟩

/-- JMP to itself at 0x0200, after any number of steps. -/
def spin (k : CycleCount) : State :=
  { start ⟨0, 0, 0, 0xFF, 0x24⟩ 0x0200 [] [0x4C, 0x00, 0x02] with
    bus := [.read 0x0200, .read 0x0201, .read 0x0202], cycleTotal := k }

theorem opcodeRow_jmp : opcodeRow 0x4C = some ⟨0x4C, .jmp, .absolute, 3, .never, .f3 .jmpAbsolute⟩ := rfl

theorem step_spin (k : CycleCount) : step (spin k) = .next (spin (k + 3)) := by
  have row : opcodeRow ((beginStep (spin k)).byteAt (beginStep (spin k)).pc) = _ := opcodeRow_jmp
  have target : joinBytes ((spin 0).byteAt 0x0202) ((spin 0).byteAt 0x0201) = 0x0200 := by decide
  rw [step_fetching rfl, stepFetching_of_none rfl, executeOne_row row]
  show exec (.jmpAbsolute (joinBytes ((spin 0).byteAt 0x0202) ((spin 0).byteAt 0x0201)))
    (fetchedBytes 3 (beginStep (spin k))) = _
  rw [target]
  rfl

theorem hostStep_spin (k : CycleCount) : hostStep (spin k) = (spin (k + 3), .ok (k + 3 - k).toNat) := by
  simp only [hostStep, step_spin]
  rfl

theorem run_spin (n : Nat) (k : CycleCount) : (run n (spin k)).stopped = none := by
  induction n generalizing k with
  | zero => rfl
  | succ n ih => simpa [run, hostStep_spin] using ih (k + 3)

theorem witness_RunUntilHaltEndsAtTheFirstErr :
    (∃ r, RunsUntilHalt (edge [0xEA, 0x02]) r) ∧ (∃ t, hostStep (edge [0xEA, 0x02]) = (t, .ok 2)) ∧
      (∃ t, hostStep (edge [0x02]) = (t, .err (some ⟨0x02, 0xFFFF⟩))) ∧
      ∀ n, (run n (spin 0)).stopped = none :=
  ⟨⟨_, 2, rfl, by decide⟩, ⟨_, by rfl⟩, ⟨_, by rfl⟩, fun n => run_spin n 0⟩

theorem witness_HostStepReturnsTheCyclesOfTheInstruction :
    Running (edge [0xD0, 0x80]) ∧ decode (bytesAtPc (edge [0xD0, 0x80])) = .ok (.bne 0x80, [0x00]) ∧
      Running (edge [0xFF]) ∧ (edge [0xFF]).byteAt (edge [0xFF]).pc ∈ invalidOpcodes :=
  ⟨⟨rfl, rfl, .inl rfl⟩, by decide, ⟨rfl, rfl, .inl rfl⟩, by decide⟩


end Sys2Proof.Tests
end

-- The forms of the instructions
section
/-! PROOFS. What executing an instruction can be: one of the seven instruction shapes with the handler of its mnemonic,
or one of the 25 implied instructions. Every statement about all instructions is a case split on `ExecForm`. -/

namespace Sys2Proof.Machine

/-- The handlers of the mnemonics that consume the value at EA (40_addressing_modes.md R146). -/
inductive ReadHandler : Mnemonic → (Byte → State → State) → Prop
  | lda : ReadHandler .lda loadA
  | ldx : ReadHandler .ldx loadX
  | ldy : ReadHandler .ldy loadY
  | adc : ReadHandler .adc adc
  | sbc : ReadHandler .sbc sbc
  | cmp : ReadHandler .cmp compareA
  | cpx : ReadHandler .cpx compareX
  | cpy : ReadHandler .cpy compareY
  | and : ReadHandler .and andA
  | ora : ReadHandler .ora oraA
  | eor : ReadHandler .eor eorA
  | bit : ReadHandler .bit bitA

/-- The registers the store mnemonics store (41_load_store.md R163 to R165). -/
inductive StoredRegister : Mnemonic → (State → Byte) → Prop
  | sta : StoredRegister .sta State.a
  | stx : StoredRegister .stx State.x
  | sty : StoredRegister .sty State.y

/-- The byte functions of the mnemonics that read, modify and write (42_arithmetic.md R179, R180; 44_shift_rotate.md
R210). -/
inductive ModifyFunction : Mnemonic → (Byte → Status → Byte × Status) → Prop
  | inc : ModifyFunction .inc increment
  | dec : ModifyFunction .dec decrement
  | asl : ModifyFunction .asl asl
  | lsr : ModifyFunction .lsr lsr
  | rol : ModifyFunction .rol rol
  | ror : ModifyFunction .ror ror

/-- The instructions with no operand but the accumulator forms (40_addressing_modes.md R143). -/
inductive Implied : Instr → Prop
  | inx : Implied .inx
  | iny : Implied .iny
  | dex : Implied .dex
  | dey : Implied .dey
  | rts : Implied .rts
  | pha : Implied .pha
  | php : Implied .php
  | pla : Implied .pla
  | plp : Implied .plp
  | tax : Implied .tax
  | tay : Implied .tay
  | txa : Implied .txa
  | tya : Implied .tya
  | tsx : Implied .tsx
  | txs : Implied .txs
  | clc : Implied .clc
  | sec : Implied .sec
  | cli : Implied .cli
  | sei : Implied .sei
  | cld : Implied .cld
  | sed : Implied .sed
  | clv : Implied .clv
  | nop : Implied .nop
  | brk : Implied .brk
  | rti : Implied .rti

/-- The shape an instruction runs in, with the handler of its mnemonic and its operand. -/
inductive ExecForm : Instr → Prop
  /-- A value at EA is consumed (40_addressing_modes.md R146). -/
  | read {i : Instr} {o : Operand} {base : Nat} {cls : PenaltyClass} {h : Byte → State → State}
      (hh : ReadHandler i.mnemonic h) (ho : i.operand = some o)
      (run : ∀ s, exec i s = readForm o base cls h s) : ExecForm i
  /-- A register is stored at EA (40_addressing_modes.md R146). -/
  | store {i : Instr} {o : Operand} {base : Nat} {cls : PenaltyClass} {r : State → Byte}
      (hr : StoredRegister i.mnemonic r) (ho : i.operand = some o)
      (run : ∀ s, exec i s = storeForm o base cls r s) : ExecForm i
  /-- The byte at EA is read and replaced (20_memory.md R76). -/
  | modify {i : Instr} {o : Operand} {base : Nat} {cls : PenaltyClass} {f : Byte → Status → Byte × Status}
      (hf : ModifyFunction i.mnemonic f) (ho : i.operand = some o)
      (run : ∀ s, exec i s = modifyForm o base cls f s) : ExecForm i
  /-- A shift or rotate of A (44_shift_rotate.md R210). -/
  | accumulator {i : Instr} {f : Byte → Status → Byte × Status}
      (hf : ModifyFunction i.mnemonic f) (hm : i.mode = .accumulator)
      (run : ∀ s, exec i s = accumulatorForm f s) : ExecForm i
  /-- A branch on the condition of its mnemonic (45_control_transfer.md R220). -/
  | branch {i : Instr} {o : Byte} (ho : i.operand = some (.relative o))
      (run : ∀ s, exec i s = branchForm o (Claims.branchCondition i.mnemonic s.p) s) : ExecForm i
  /-- JMP (45_control_transfer.md R229). -/
  | jump {i : Instr} {o : Operand} {base : Nat} (hm : i.mnemonic = .jmp) (ho : i.operand = some o)
      (run : ∀ s, exec i s = jumpForm o base (fun ea s => { s with pc := ea }) s) : ExecForm i
  /-- JSR (45_control_transfer.md R230). -/
  | call (a : Word) : ExecForm (.jsr a)
  /-- An instruction with no operand (40_addressing_modes.md R143). -/
  | implied {i : Instr} (hi : Implied i) : ExecForm i

/-- The dispatch (48_execute_loop.md R284, R285), mnemonic by mnemonic. -/
theorem exec_form : (i : Instr) → ExecForm i
  | .ldaImmediate _ | .ldaZeroPage _ | .ldaZeroPageX _ | .ldaAbsolute _ | .ldaAbsoluteX _ | .ldaAbsoluteY _
  | .ldaIndexedIndirectX _ | .ldaIndirectIndexedY _ => .read .lda rfl fun _ => rfl
  | .ldxImmediate _ | .ldxZeroPage _ | .ldxZeroPageY _ | .ldxAbsolute _ | .ldxAbsoluteY _ => .read .ldx rfl fun _ => rfl
  | .ldyImmediate _ | .ldyZeroPage _ | .ldyZeroPageX _ | .ldyAbsolute _ | .ldyAbsoluteX _ => .read .ldy rfl fun _ => rfl
  | .staZeroPage _ | .staZeroPageX _ | .staAbsolute _ | .staAbsoluteX _ | .staAbsoluteY _
  | .staIndexedIndirectX _ | .staIndirectIndexedY _ => .store .sta rfl fun _ => rfl
  | .stxZeroPage _ | .stxZeroPageY _ | .stxAbsolute _ => .store .stx rfl fun _ => rfl
  | .styZeroPage _ | .styZeroPageX _ | .styAbsolute _ => .store .sty rfl fun _ => rfl
  | .adcImmediate _ | .adcZeroPage _ | .adcZeroPageX _ | .adcAbsolute _ | .adcAbsoluteX _ | .adcAbsoluteY _
  | .adcIndexedIndirectX _ | .adcIndirectIndexedY _ => .read .adc rfl fun _ => rfl
  | .sbcImmediate _ | .sbcZeroPage _ | .sbcZeroPageX _ | .sbcAbsolute _ | .sbcAbsoluteX _ | .sbcAbsoluteY _
  | .sbcIndexedIndirectX _ | .sbcIndirectIndexedY _ => .read .sbc rfl fun _ => rfl
  | .cmpImmediate _ | .cmpZeroPage _ | .cmpZeroPageX _ | .cmpAbsolute _ | .cmpAbsoluteX _ | .cmpAbsoluteY _
  | .cmpIndexedIndirectX _ | .cmpIndirectIndexedY _ => .read .cmp rfl fun _ => rfl
  | .cpxImmediate _ | .cpxZeroPage _ | .cpxAbsolute _ => .read .cpx rfl fun _ => rfl
  | .cpyImmediate _ | .cpyZeroPage _ | .cpyAbsolute _ => .read .cpy rfl fun _ => rfl
  | .incZeroPage _ | .incZeroPageX _ | .incAbsolute _ | .incAbsoluteX _ => .modify .inc rfl fun _ => rfl
  | .decZeroPage _ | .decZeroPageX _ | .decAbsolute _ | .decAbsoluteX _ => .modify .dec rfl fun _ => rfl
  | .andImmediate _ | .andZeroPage _ | .andZeroPageX _ | .andAbsolute _ | .andAbsoluteX _ | .andAbsoluteY _
  | .andIndexedIndirectX _ | .andIndirectIndexedY _ => .read .and rfl fun _ => rfl
  | .oraImmediate _ | .oraZeroPage _ | .oraZeroPageX _ | .oraAbsolute _ | .oraAbsoluteX _ | .oraAbsoluteY _
  | .oraIndexedIndirectX _ | .oraIndirectIndexedY _ => .read .ora rfl fun _ => rfl
  | .eorImmediate _ | .eorZeroPage _ | .eorZeroPageX _ | .eorAbsolute _ | .eorAbsoluteX _ | .eorAbsoluteY _
  | .eorIndexedIndirectX _ | .eorIndirectIndexedY _ => .read .eor rfl fun _ => rfl
  | .bitZeroPage _ | .bitAbsolute _ => .read .bit rfl fun _ => rfl
  | .aslAccumulator => .accumulator .asl rfl fun _ => rfl
  | .aslZeroPage _ | .aslZeroPageX _ | .aslAbsolute _ | .aslAbsoluteX _ => .modify .asl rfl fun _ => rfl
  | .lsrAccumulator => .accumulator .lsr rfl fun _ => rfl
  | .lsrZeroPage _ | .lsrZeroPageX _ | .lsrAbsolute _ | .lsrAbsoluteX _ => .modify .lsr rfl fun _ => rfl
  | .rolAccumulator => .accumulator .rol rfl fun _ => rfl
  | .rolZeroPage _ | .rolZeroPageX _ | .rolAbsolute _ | .rolAbsoluteX _ => .modify .rol rfl fun _ => rfl
  | .rorAccumulator => .accumulator .ror rfl fun _ => rfl
  | .rorZeroPage _ | .rorZeroPageX _ | .rorAbsolute _ | .rorAbsoluteX _ => .modify .ror rfl fun _ => rfl
  | .bpl _ | .bmi _ | .bvc _ | .bvs _ | .bcc _ | .bcs _ | .bne _ | .beq _ => .branch rfl fun _ => rfl
  | .jmpAbsolute _ | .jmpIndirect _ => .jump rfl rfl fun _ => rfl
  | .jsr a => .call a
  | .inx | .iny | .dex | .dey | .rts | .pha | .php | .pla | .plp | .tax | .tay | .txa | .tya | .tsx | .txs | .clc | .sec
  | .cli | .sei | .cld | .sed | .clv | .nop | .brk | .rti => .implied (by constructor)

/-! ### What the shapes answer, for those without a lemma in Laws/Operands -/

theorem accumulatorForm_eq (f : Byte → Status → Byte × Status) (s : State) :
    accumulatorForm f s = .next (charge 2 { s with a := (f s.a s.p).1, p := (f s.a s.p).2 }) := rfl

theorem jumpForm_eq (o : Operand) (base : Nat) (handler : Word → State → State) (s : State) :
    jumpForm o base handler s =
      .next (charge base (handler (effectiveAddress o s) (s.record (pointerReads o s)))) := rfl

/-- A branch changes PC and the cycle total only (45_control_transfer.md R220). -/
theorem branchForm_changes_pc (o : Byte) (cond : Bool) (s : State) :
    ∃ n pc, branchForm o cond s = .next (charge n { s with pc := pc }) := by
  rw [branchForm_eq]
  cases cond
  · exact ⟨2, s.pc, rfl⟩
  · exact ⟨_, _, rfl⟩

/-- JSR, whole: the return address pushed, PC replaced (45_control_transfer.md R230). -/
theorem exec_jsr (a : Word) (s : State) :
    exec (.jsr a) s = .next (charge 6 { push16 (s.pc - 1) s with pc := a }) := by
  rw [show exec (.jsr a) s = execJsr a s from rfl, execJsr, jumpForm_eq, pointerReads, record_nil, effectiveAddress]

/-- RTS, whole: PC pulled, low byte first, and one added (45_control_transfer.md R231). -/
theorem exec_rts (s : State) :
    exec .rts s =
      .next (charge 6
        { s with
          pc := joinBytes (s.byteAt (stackAddress (s.sp + 2))) (s.byteAt (stackAddress (s.sp + 1))) + 1
          sp := s.sp + 2
          bus := s.bus ++ [.read (stackAddress (s.sp + 1)), .read (stackAddress (s.sp + 2))] }) := by
  simp [show exec .rts s = execRts s from rfl, execRts, impliedForm, pull16, pull, memRead, State.record, State.byteAt,
    BitVec.add_assoc]

/-- RTI, whole: the status byte pulled, then PC (47_flags_system.md R269). -/
theorem exec_rti (s : State) :
    exec .rti s =
      .next (charge 6
        { s with
          p := Status.load (s.byteAt (stackAddress (s.sp + 1)))
          pc := joinBytes (s.byteAt (stackAddress (s.sp + 3))) (s.byteAt (stackAddress (s.sp + 2)))
          sp := s.sp + 3
          bus := s.bus ++ [.read (stackAddress (s.sp + 1)), .read (stackAddress (s.sp + 2)),
            .read (stackAddress (s.sp + 3))] }) := by
  rw [show exec .rti s = .next (charge 6 (returnFromException s)) from rfl, returnFromException_eq]

/-- BRK, whole (47_flags_system.md R268). -/
theorem exec_brk (s : State) : exec .brk s = .next (charge 7 (takeException (s.pc + 1) true irqVector s)) := rfl

/-! ### Registers and flags after the 16-bit push and the entry of an exception -/

@[simp] theorem push16_a (w : Word) (s : State) : (push16 w s).a = s.a := by simp [push16]
@[simp] theorem push16_x (w : Word) (s : State) : (push16 w s).x = s.x := by simp [push16]
@[simp] theorem push16_y (w : Word) (s : State) : (push16 w s).y = s.y := by simp [push16]
@[simp] theorem push16_p (w : Word) (s : State) : (push16 w s).p = s.p := by simp [push16]

@[simp] theorem takeException_a (ret : Word) (b : Bool) (vector : Word) (s : State) :
    (takeException ret b vector s).a = s.a := by
  simp [takeException_eq]

@[simp] theorem takeException_x (ret : Word) (b : Bool) (vector : Word) (s : State) :
    (takeException ret b vector s).x = s.x := by
  simp [takeException_eq]

@[simp] theorem takeException_y (ret : Word) (b : Bool) (vector : Word) (s : State) :
    (takeException ret b vector s).y = s.y := by
  simp [takeException_eq]

@[simp] theorem takeException_p (ret : Word) (b : Bool) (vector : Word) (s : State) :
    (takeException ret b vector s).p = s.p.put .interrupt true := by
  simp [takeException_eq, Status.put]

end Sys2Proof.Machine
end

-- The flags an instruction writes
section
/-! PROOFS. The flags each status operation can change, and from them the flag table of 10_state.md R42. -/

open Sys2Proof.Claims Sys2Proof.Machine

namespace Sys2Proof.Machine

/-! ### The flags each status operation can change -/

/-- `p'` differs from `p` at most in the flags of `l`. -/
def DiffersIn (l : List Flag) (p p' : Status) : Prop := ∀ f, f ∉ l → p'.test f = p.test f

theorem setNZ_differsIn (p : Status) (v : Byte) : DiffersIn [.zero, .negative] p (p.setNZ v) := by
  intro f hf
  cases f <;> simp [Status.test] at hf ⊢

theorem setShift_differsIn (p : Status) (r : Byte × Bool) :
    DiffersIn [.carry, .zero, .negative] p (p.setShift r) := by
  intro f hf
  cases f <;> simp [Status.test] at hf ⊢

theorem compare_differsIn (p : Status) (r m : Byte) : DiffersIn [.carry, .zero, .negative] p (p.compare r m) := by
  intro f hf
  cases f <;> simp [Status.test] at hf ⊢

theorem bitTest_differsIn (p : Status) (a m : Byte) :
    DiffersIn [.zero, .negative, .overflow] p (p.bitTest a m) := by
  intro f hf
  cases f <;> simp [Status.test, Status.bitTest] at hf ⊢

theorem setSum_differsIn (p : Status) (r : Sum) :
    DiffersIn [.carry, .zero, .overflow, .negative] p (p.setSum r) := by
  intro f hf
  cases f <;> simp [Status.test] at hf ⊢

theorem decimalAdd_differsIn (a m : Byte) (p : Status) :
    DiffersIn [.carry, .zero, .overflow, .negative] p (decimalAdd a m p).2 := by
  intro f hf
  cases f <;> simp [Status.test, decimalAdd] at hf ⊢

theorem addWithCarry_differsIn (a m : Byte) (p : Status) :
    DiffersIn [.carry, .zero, .overflow, .negative] p (addWithCarry a m p).2 := by
  unfold addWithCarry
  split
  · exact decimalAdd_differsIn a m p
  · exact setSum_differsIn p _

theorem put_differsIn (p : Status) (f : Flag) (v : Bool) : DiffersIn [f] p (p.put f v) := by
  intro g hg
  cases f <;> cases g <;> simp [Status.test, Status.put] at hg ⊢

/-! ### The flag table -/

/-- Every flag the table does not list `m` for is the same in `p'` as in `p` (10_state.md R40, R42). -/
def UnlistedFlagsKept (m : Mnemonic) (p p' : Status) : Prop := ∀ f, m ∉ flagWriters f → p'.test f = p.test f

theorem unlistedFlagsKept_of_differsIn {m : Mnemonic} {l : List Flag} {p p' : Status} (hd : DiffersIn l p p')
    (hl : ∀ f ∈ l, m ∈ flagWriters f) : UnlistedFlagsKept m p p' :=
  fun f hf => hd f fun hmem => hf (hl f hmem)

theorem unlistedFlagsKept_of_eq {m : Mnemonic} {p p' : Status} (h : p' = p) : UnlistedFlagsKept m p p' :=
  fun _ _ => by rw [h]

/-- PLP and RTI, the two that load the whole status register, are listed for every flag. -/
theorem unlistedFlagsKept_of_loads {m : Mnemonic} (p p' : Status) (hm : m ∈ [Mnemonic.plp, .rti]) :
    UnlistedFlagsKept m p p' := by
  intro f hf
  refine absurd ?_ hf
  revert m
  cases f <;> decide

theorem ReadHandler.flags {m : Mnemonic} {h : Byte → State → State} (hh : ReadHandler m h) (v : Byte) (s : State) :
    UnlistedFlagsKept m s.p (h v s).p := by
  cases hh with
  | lda | ldx | ldy | and | ora | eor => exact unlistedFlagsKept_of_differsIn (setNZ_differsIn _ _) (by decide)
  | adc => exact unlistedFlagsKept_of_differsIn (addWithCarry_differsIn _ _ _) (by decide)
  | sbc => exact unlistedFlagsKept_of_differsIn (setSum_differsIn _ _) (by decide)
  | cmp | cpx | cpy => exact unlistedFlagsKept_of_differsIn (compare_differsIn _ _ _) (by decide)
  | bit => exact unlistedFlagsKept_of_differsIn (bitTest_differsIn _ _ _) (by decide)

theorem ModifyFunction.flags {m : Mnemonic} {f : Byte → Status → Byte × Status} (hf : ModifyFunction m f) (v : Byte)
    (p : Status) : UnlistedFlagsKept m p (f v p).2 := by
  cases hf with
  | inc | dec => exact unlistedFlagsKept_of_differsIn (setNZ_differsIn _ _) (by decide)
  | asl | lsr | rol | ror => exact unlistedFlagsKept_of_differsIn (setShift_differsIn _ _) (by decide)

theorem Implied.flags {i : Instr} (hi : Implied i) (s : State) :
    ∃ t, exec i s = .next t ∧ UnlistedFlagsKept i.mnemonic s.p t.p := by
  cases hi with
  | inx | iny | dex | dey | pla | tax | tay | txa | tya | tsx =>
    exact ⟨_, rfl, unlistedFlagsKept_of_differsIn (setNZ_differsIn _ _) (by decide)⟩
  | clc | sec | cli | sei | cld | sed | clv =>
    exact ⟨_, rfl, unlistedFlagsKept_of_differsIn (put_differsIn _ _ _) (by decide)⟩
  | brk =>
    refine ⟨_, exec_brk s, ?_⟩
    rw [charge_p, takeException_p]
    exact unlistedFlagsKept_of_differsIn (put_differsIn _ _ _) (by decide)
  | rti => exact ⟨_, exec_rti s, unlistedFlagsKept_of_loads _ _ (by decide)⟩
  | plp => exact ⟨_, rfl, unlistedFlagsKept_of_loads _ _ (by decide)⟩
  | rts | pha | php | txs | nop => exact ⟨_, rfl, unlistedFlagsKept_of_eq rfl⟩

/-- Every instruction completes and keeps the flags it is not listed for. -/
theorem exec_flags (i : Instr) (s : State) : ∃ t, exec i s = .next t ∧ UnlistedFlagsKept i.mnemonic s.p t.p := by
  cases exec_form i with
  | read hh _ run => exact ⟨_, (run s).trans (readForm_eq ..), hh.flags _ (s.record _)⟩
  | store _ _ run => exact ⟨_, (run s).trans (storeForm_eq ..), unlistedFlagsKept_of_eq rfl⟩
  | modify hf _ run => exact ⟨_, (run s).trans (modifyForm_eq ..), hf.flags _ _⟩
  | accumulator hf _ run => exact ⟨_, (run s).trans (accumulatorForm_eq ..), hf.flags _ _⟩
  | branch _ run =>
    obtain ⟨n, pc, hb⟩ := branchForm_changes_pc _ _ s
    exact ⟨_, (run s).trans hb, unlistedFlagsKept_of_eq rfl⟩
  | jump _ _ run => exact ⟨_, (run s).trans (jumpForm_eq ..), unlistedFlagsKept_of_eq rfl⟩
  | call a => exact ⟨_, exec_jsr a s, unlistedFlagsKept_of_eq (by simp)⟩
  | implied hi => exact hi.flags s

end Sys2Proof.Machine

/-- Settles O22, by the flag table of every form. -/
theorem Sys2Proof.Proofs.unlistedFlagsKeepTheirValue : Obligations.UnlistedFlagsKeepTheirValue := by
  intro i s t f h hf
  obtain ⟨t', ht', hkept⟩ := exec_flags i s
  cases ht'.symm.trans h
  exact hkept f hf
end

-- The registers an instruction writes
section
/-! PROOFS. The writers of A, X, Y and SP (10_state.md R31, R32, R33, R35). -/

open Sys2Proof.Machine

namespace Sys2Proof.Machine

/-- A, X, Y and SP are the same in `t` as in `s`, each unless `m` is one of its writers. -/
def UnwrittenRegistersKept (m : Mnemonic) (s t : State) : Prop :=
  (m ∉ [Mnemonic.lda, .adc, .sbc, .and, .ora, .eor, .pla, .txa, .tya] → t.a = s.a) ∧
    (m ∉ [Mnemonic.ldx, .tax, .tsx, .inx, .dex] → t.x = s.x) ∧
    (m ∉ [Mnemonic.ldy, .tay, .iny, .dey] → t.y = s.y) ∧
    (m ∉ [Mnemonic.txs, .pha, .php, .pla, .plp, .jsr, .rts, .brk, .rti] → t.sp = s.sp)

theorem unwrittenRegistersKept_of_eq {m : Mnemonic} {s t : State}
    (h : t.a = s.a ∧ t.x = s.x ∧ t.y = s.y ∧ t.sp = s.sp) : UnwrittenRegistersKept m s t := by
  obtain ⟨ha, hx, hy, hsp⟩ := h
  exact ⟨fun _ => ha, fun _ => hx, fun _ => hy, fun _ => hsp⟩

theorem ReadHandler.registers {m : Mnemonic} {h : Byte → State → State} (hh : ReadHandler m h) (v : Byte) (s : State) :
    UnwrittenRegistersKept m s (h v s) := by
  cases hh with
  | lda | adc | sbc | and | ora | eor =>
    exact ⟨absurd (by decide), fun _ => rfl, fun _ => rfl, fun _ => rfl⟩
  | ldx => exact ⟨fun _ => rfl, absurd (by decide), fun _ => rfl, fun _ => rfl⟩
  | ldy => exact ⟨fun _ => rfl, fun _ => rfl, absurd (by decide), fun _ => rfl⟩
  | cmp | cpx | cpy | bit => exact ⟨fun _ => rfl, fun _ => rfl, fun _ => rfl, fun _ => rfl⟩

theorem Implied.registers {i : Instr} (hi : Implied i) (s : State) :
    ∃ t, exec i s = .next t ∧ UnwrittenRegistersKept i.mnemonic s t := by
  cases hi with
  | pla =>
    exact ⟨_, rfl, absurd (by decide), fun _ => rfl, fun _ => rfl, absurd (by decide)⟩
  | txa | tya => exact ⟨_, rfl, absurd (by decide), fun _ => rfl, fun _ => rfl, fun _ => rfl⟩
  | tax | tsx | inx | dex => exact ⟨_, rfl, fun _ => rfl, absurd (by decide), fun _ => rfl, fun _ => rfl⟩
  | tay | iny | dey => exact ⟨_, rfl, fun _ => rfl, fun _ => rfl, absurd (by decide), fun _ => rfl⟩
  | brk => exact ⟨_, exec_brk s, fun _ => by simp, fun _ => by simp, fun _ => by simp, absurd (by decide)⟩
  | rts => exact ⟨_, exec_rts s, fun _ => rfl, fun _ => rfl, fun _ => rfl, absurd (by decide)⟩
  | rti => exact ⟨_, exec_rti s, fun _ => rfl, fun _ => rfl, fun _ => rfl, absurd (by decide)⟩
  | txs | pha | php | plp =>
    exact ⟨_, rfl, fun _ => rfl, fun _ => rfl, fun _ => rfl, absurd (by decide)⟩
  | clc | sec | cli | sei | cld | sed | clv | nop =>
    exact ⟨_, rfl, fun _ => rfl, fun _ => rfl, fun _ => rfl, fun _ => rfl⟩

/-- Every instruction completes and keeps the registers its mnemonic does not write; the accumulator forms write A too
(44_shift_rotate.md R210). -/
theorem exec_registers (i : Instr) (s : State) :
    ∃ t, exec i s = .next t ∧
      (UnwrittenRegistersKept i.mnemonic s t ∨ i.mode = .accumulator ∧ t.x = s.x ∧ t.y = s.y ∧ t.sp = s.sp) := by
  cases exec_form i with
  | read hh _ run => exact ⟨_, (run s).trans (readForm_eq ..), .inl (hh.registers _ (s.record _))⟩
  | store _ _ run => exact ⟨_, (run s).trans (storeForm_eq ..), .inl (unwrittenRegistersKept_of_eq (by simp))⟩
  | modify _ _ run => exact ⟨_, (run s).trans (modifyForm_eq ..), .inl (unwrittenRegistersKept_of_eq (by simp))⟩
  | accumulator _ hm run => exact ⟨_, (run s).trans (accumulatorForm_eq ..), .inr ⟨hm, rfl, rfl, rfl⟩⟩
  | branch _ run =>
    obtain ⟨n, pc, hb⟩ := branchForm_changes_pc _ _ s
    exact ⟨_, (run s).trans hb, .inl (unwrittenRegistersKept_of_eq (by simp))⟩
  | jump _ _ run => exact ⟨_, (run s).trans (jumpForm_eq ..), .inl (unwrittenRegistersKept_of_eq (by simp))⟩
  | call a =>
    exact ⟨_, exec_jsr a s,
      .inl ⟨fun _ => by simp, fun _ => by simp, fun _ => by simp, absurd (by simp [Instr.mnemonic])⟩⟩
  | implied hi =>
    obtain ⟨t, ht, hk⟩ := hi.registers s
    exact ⟨t, ht, .inl hk⟩

end Sys2Proof.Machine

/-- Settles O23: the accumulator forms write A only, and every other form keeps what its mnemonic does not write. -/
theorem Sys2Proof.Proofs.registersChangeOnlyByTheirWriters : Obligations.RegistersChangeOnlyByTheirWriters := by
  intro i s t h
  obtain ⟨t', ht', hkept⟩ := exec_registers i s
  cases ht'.symm.trans h
  obtain ⟨ha, hx, hy, hsp⟩ | ⟨hm, hx, hy, hsp⟩ := hkept
  · exact ⟨fun hw _ => ha hw, hx, hy, hsp⟩
  · exact ⟨fun _ hacc => absurd hm hacc, fun _ => hx, fun _ => hy, fun _ => hsp⟩
end

-- The invariant
section
/-! PROOFS. What keeps the invariant (10_state.md R39, R44; 20_memory.md R70). An update that leaves memory, P.B, the
fault record and the loop state alone keeps it by unfolding. -/

open Sys2Proof.Machine

namespace Sys2Proof.Machine

/-! ### The operations that write memory or P -/

theorem stateInv_memWrite (addr : Word) (v : Byte) {s : State} (hs : StateInv s) : StateInv (memWrite addr v s) := by
  obtain ⟨hwf, hrest⟩ := hs
  exact ⟨Memory.wf_write_word addr v hwf, hrest⟩

theorem stateInv_memWrite_withStatus (addr : Word) (v : Byte) {p : Status} {s : State} (hs : StateInv s)
    (hb : p.b = false) : StateInv { memWrite addr v s with p := p } := by
  obtain ⟨hwf, -, hhalt⟩ := hs
  exact ⟨Memory.wf_write_word addr v hwf, hb, hhalt⟩

theorem stateInv_charge (n : Nat) {s : State} (hs : StateInv s) : StateInv (charge n s) := hs

theorem stateInv_setPc (pc : Word) {s : State} (hs : StateInv s) : StateInv { s with pc := pc } := hs

theorem stateInv_push (v : Byte) {s : State} (hs : StateInv s) : StateInv (push v s) :=
  stateInv_memWrite (stackAddress s.sp) v hs

theorem stateInv_push16 (w : Word) {s : State} (hs : StateInv s) : StateInv (push16 w s) :=
  stateInv_push _ (stateInv_push _ hs)

/-- The status register may be replaced by one whose Break bit is 0, and any register with it. -/
theorem stateInv_of_eq {s t : State} (hs : StateInv s) (hb : t.p.b = false) (hm : t.mem = s.mem)
    (hf : t.fault = s.fault) (hl : t.loopState = s.loopState) : StateInv t := by
  obtain ⟨hwf, -, hhalt⟩ := hs
  exact ⟨hm ▸ hwf, hb, hf ▸ hl ▸ hhalt⟩

theorem stateInv_takeException (ret : Word) (b : Bool) (vector : Word) {s : State} (hs : StateInv s) :
    StateInv (takeException ret b vector s) := by
  rw [takeException_eq]
  exact stateInv_push (s.p.pushed b) (stateInv_push16 ret hs)

theorem stateInv_interruptEntry (k : InterruptKind) {s : State} (hs : StateInv s) : StateInv (interruptEntry k s) := by
  cases k with
  | nmi =>
    exact stateInv_charge 7 (stateInv_takeException s.pc false nmiVector (s := { s with nmiPending := false }) hs)
  | irq => exact stateInv_charge 7 (stateInv_takeException s.pc false irqVector hs)

/-- DecodeFault enters Halted and records the fault in one (60_exceptions.md R310). -/
theorem stateInv_raiseDecodeFault (op : Byte) (pc : Word) {s : State} (hs : StateInv s) :
    StateInv (raiseDecodeFault op pc s) := by
  obtain ⟨hwf, hb, -⟩ := hs
  exact ⟨hwf, hb, iff_of_true rfl rfl⟩

/-! ### Every instruction -/

theorem ReadHandler.stateInv {m : Mnemonic} {h : Byte → State → State} (hh : ReadHandler m h) (v : Byte) {s : State}
    (hs : StateInv s) : StateInv (h v s) := by
  cases hh with
  | adc =>
    obtain ⟨hwf, hb, hhalt⟩ := hs
    exact ⟨hwf, (addWithCarry_differsIn s.a v s.p .break_ (by decide)).trans hb, hhalt⟩
  | lda | ldx | ldy | sbc | cmp | cpx | cpy | and | ora | eor | bit => exact hs

theorem ModifyFunction.break_eq {m : Mnemonic} {f : Byte → Status → Byte × Status} (hf : ModifyFunction m f) (v : Byte)
    (p : Status) : (f v p).2.b = p.b := by
  cases hf <;> rfl

theorem Implied.stateInv {i : Instr} (hi : Implied i) {s : State} (hs : StateInv s) :
    ∃ t, exec i s = .next t ∧ StateInv t := by
  cases hi with
  | pha => exact ⟨_, rfl, stateInv_push s.a hs⟩
  | php => exact ⟨_, rfl, stateInv_push (s.p.pushed true) hs⟩
  | brk => exact ⟨_, exec_brk s, stateInv_charge 7 (stateInv_takeException (s.pc + 1) true irqVector hs)⟩
  | rts => exact ⟨_, exec_rts s, hs⟩
  | rti => exact ⟨_, exec_rti s, stateInv_of_eq hs rfl rfl rfl rfl⟩
  | plp => exact ⟨_, rfl, stateInv_of_eq hs rfl rfl rfl rfl⟩
  | inx | iny | dex | dey | pla | tax | tay | txa | tya | tsx | txs | clc | sec | cli | sei | cld | sed | clv
  | nop => exact ⟨_, rfl, hs⟩

/-- Every instruction completes and keeps the invariant. -/
theorem exec_stateInv (i : Instr) {s : State} (hs : StateInv s) : ∃ t, exec i s = .next t ∧ StateInv t := by
  cases exec_form i with
  | read hh _ run => exact ⟨_, (run s).trans (readForm_eq ..), hh.stateInv _ (s := s.record _) hs⟩
  | store _ _ run => exact ⟨_, (run s).trans (storeForm_eq ..), stateInv_memWrite _ _ (s := s.record _) hs⟩
  | modify hf _ run =>
    exact ⟨_, (run s).trans (modifyForm_eq ..),
      stateInv_charge _
        (stateInv_memWrite_withStatus _ _ (s := s.record _) hs ((hf.break_eq _ _).trans hs.2.1))⟩
  | accumulator hf _ run =>
    exact ⟨_, (run s).trans (accumulatorForm_eq ..), stateInv_of_eq hs ((hf.break_eq _ _).trans hs.2.1) rfl rfl rfl⟩
  | branch _ run =>
    obtain ⟨n, pc, hb⟩ := branchForm_changes_pc _ _ s
    exact ⟨_, (run s).trans hb, hs⟩
  | jump _ _ run => exact ⟨_, (run s).trans (jumpForm_eq ..), hs⟩
  | call a => exact ⟨_, exec_jsr a s, stateInv_charge 6 (stateInv_setPc a (stateInv_push16 (s.pc - 1) hs))⟩
  | implied hi => exact hi.stateInv hs

/-- A step in Fetching completes and keeps the invariant, whether it enters an interrupt, halts on an Invalid opcode or
runs an instruction (48_execute_loop.md R280). -/
theorem stepFetching_stateInv {s : State} (hs : StateInv s) : ∃ t, stepFetching s = .next t ∧ StateInv t := by
  obtain ⟨k, -, hstep⟩ | ⟨-, -, hstep⟩ | ⟨-, i, hstep⟩ := stepFetching_cases s
  · exact ⟨_, hstep, stateInv_interruptEntry k (s := beginStep s) hs⟩
  · exact ⟨_, hstep, stateInv_raiseDecodeFault _ _ (s := (fetchByte (beginStep s)).2) hs⟩
  · rw [hstep]
    exact exec_stateInv i (s := fetchedBytes i.length (beginStep s)) hs

end Sys2Proof.Machine

/-- Settles O36: a step that answers a next state is one in Fetching. -/
theorem Sys2Proof.Proofs.stepKeepsInvariant : Obligations.StepKeepsInvariant := by
  intro s t hs h
  cases hl : s.loopState with
  | halted => cases (step_halted hl).symm.trans h
  | fetching =>
    obtain ⟨t', ht', hinv⟩ := stepFetching_stateInv hs
    cases ((step_fetching hl).trans ht').symm.trans h
    exact hinv

/-- Settles O37: the reset memory lists no byte, and Fetching has no fault. -/
theorem Sys2Proof.Proofs.resetStateMeetsInvariant : Obligations.ResetStateMeetsInvariant :=
  ⟨rfl, rfl, by decide⟩
end

-- The Break bit
section
/-! PROOFS. Nothing reads the stored Break bit (10_state.md R39): the two runs from states that differ in it go through
the same case of every definition. -/

open Sys2Proof.Claims Sys2Proof.Machine

namespace Sys2Proof.Machine

/-! ### What the operations compute from the rest of the state -/

@[simp] theorem withBreak_p (b : Bool) (s : State) : (withBreak b s).p = { s.p with b := b } := rfl

@[simp] theorem byteAt_withBreak (addr : Word) (b : Bool) (s : State) :
    (withBreak b s).byteAt addr = s.byteAt addr := rfl

@[simp] theorem record_withBreak (l : List BusAccess) (b : Bool) (s : State) :
    (withBreak b s).record l = withBreak b (s.record l) := rfl

@[simp] theorem effectiveAddress_withBreak (o : Operand) (b : Bool) (s : State) :
    effectiveAddress o (withBreak b s) = effectiveAddress o s := by
  cases o <;> rfl

@[simp] theorem pointerReads_withBreak (o : Operand) (b : Bool) (s : State) :
    pointerReads o (withBreak b s) = pointerReads o s := by
  cases o <;> rfl

@[simp] theorem pageCrossed_withBreak (o : Operand) (b : Bool) (s : State) :
    pageCrossed o (withBreak b s) = pageCrossed o s := by
  cases o <;> rfl

@[simp] theorem operandValue_withBreak (o : Operand) (b : Bool) (s : State) :
    operandValue o (withBreak b s) = operandValue o s := by
  cases o <;> rfl

@[simp] theorem operandAccesses_withBreak (o : Operand) (b : Bool) (s : State) :
    operandAccesses o (withBreak b s) = operandAccesses o s := by
  cases o <;> rfl

@[simp] theorem branchCondition_withBreak (m : Mnemonic) (b : Bool) (p : Status) :
    branchCondition m { p with b := b } = branchCondition m p := by
  cases m <;> rfl

theorem addWithCarry_withBreak (a m : Byte) (b : Bool) (p : Status) :
    addWithCarry a m { p with b := b } = ((addWithCarry a m p).1, { (addWithCarry a m p).2 with b := b }) := by
  obtain ⟨c, z, i, d, b', v, n⟩ := p
  cases d <;> rfl

/-! ### The handlers -/

theorem ReadHandler.apply_withBreak {m : Mnemonic} {h : Byte → State → State} (hh : ReadHandler m h) (v : Byte)
    (b : Bool) (s : State) : h v (withBreak b s) = withBreak b (h v s) := by
  cases hh with
  | adc =>
    have hsum := addWithCarry_withBreak s.a v b s.p
    simp only [Machine.adc, Machine.withBreak, hsum]
  | lda | ldx | ldy | sbc | cmp | cpx | cpy | and | ora | eor | bit => rfl

theorem StoredRegister.apply_withBreak {m : Mnemonic} {r : State → Byte} (hr : StoredRegister m r) (b : Bool)
    (s : State) : r (withBreak b s) = r s := by
  cases hr <;> rfl

theorem ModifyFunction.apply_withBreak {m : Mnemonic} {f : Byte → Status → Byte × Status} (hf : ModifyFunction m f)
    (v : Byte) (b : Bool) (p : Status) : f v { p with b := b } = ((f v p).1, { (f v p).2 with b := b }) := by
  cases hf <;> rfl

/-! ### Every instruction -/

/-- `f` answers next states that differ at most in the Break bit from two states that differ in it. -/
def BreakBlind (f : State → Answer) : Prop :=
  ∀ (s : State) (b : Bool), ∃ t b', f s = .next t ∧ f (withBreak b s) = .next (withBreak b' t)

theorem Implied.breakBlind {i : Instr} (hi : Implied i) : BreakBlind (exec i) := by
  intro s b
  cases hi with
  | plp | rti => exact ⟨_, false, rfl, rfl⟩
  | inx | iny | dex | dey | rts | pha | php | pla | tax | tay | txa | tya | tsx | txs | clc | sec | cli | sei | cld
  | sed | clv | nop | brk => exact ⟨_, b, rfl, rfl⟩

theorem exec_breakBlind (i : Instr) : BreakBlind (exec i) := by
  intro s b
  cases exec_form i with
  | read hh _ run =>
    refine ⟨_, b, (run s).trans (readForm_eq ..), ?_⟩
    rw [run, readForm_eq, pageCrossed_withBreak, operandValue_withBreak, operandAccesses_withBreak, record_withBreak,
      hh.apply_withBreak]
    rfl
  | store hr _ run =>
    refine ⟨_, b, (run s).trans (storeForm_eq ..), ?_⟩
    rw [run, storeForm_eq, pageCrossed_withBreak, effectiveAddress_withBreak, pointerReads_withBreak, record_withBreak,
      hr.apply_withBreak]
    rfl
  | modify hf _ run =>
    refine ⟨_, b, (run s).trans (modifyForm_eq ..), ?_⟩
    rw [run, modifyForm_eq, pageCrossed_withBreak, effectiveAddress_withBreak, pointerReads_withBreak,
      byteAt_withBreak, withBreak_p, hf.apply_withBreak]
    rfl
  | accumulator hf _ run =>
    refine ⟨_, b, (run s).trans (accumulatorForm_eq ..), ?_⟩
    rw [run, accumulatorForm_eq, withBreak_p, hf.apply_withBreak]
    rfl
  | branch _ run =>
    refine ⟨_, b, (run s).trans (branchForm_eq ..), ?_⟩
    rw [run, branchForm_eq, withBreak_p, branchCondition_withBreak]
    cases branchCondition i.mnemonic s.p <;> rfl
  | jump _ _ run =>
    refine ⟨_, b, (run s).trans (jumpForm_eq ..), ?_⟩
    rw [run, jumpForm_eq, effectiveAddress_withBreak, pointerReads_withBreak]
    rfl
  | call a => exact ⟨_, b, rfl, rfl⟩
  | implied hi => exact hi.breakBlind s b

/-! ### The step -/

theorem executeShape_breakBlind (shape : Shape) : BreakBlind (executeShape shape) := by
  intro s b
  cases shape with
  | f1 i => exact exec_breakBlind i s b
  | f2 make => exact exec_breakBlind (make (s.byteAt s.pc)) (fetchByte s).2 b
  | f3 make =>
    exact exec_breakBlind (make (joinBytes (s.byteAt (s.pc + 1)) (s.byteAt s.pc))) (fetchByte (fetchByte s).2).2 b

theorem executeOne_breakBlind : BreakBlind executeOne := by
  intro s b
  cases ho : opcodeRow (s.byteAt s.pc) with
  | none => exact ⟨_, b, executeOne_invalid ho, executeOne_invalid (s := withBreak b s) ho⟩
  | some r =>
    rw [executeOne_row ho, executeOne_row (s := withBreak b s) ho]
    exact executeShape_breakBlind r.shape (fetchByte s).2 b

theorem stepFetching_breakBlind : BreakBlind stepFetching := by
  intro s b
  cases ha : acceptedInterrupt s with
  | none =>
    rw [stepFetching_of_none ha, stepFetching_of_none (s := withBreak b s) ha]
    exact executeOne_breakBlind (beginStep s) b
  | some k =>
    refine ⟨_, b, stepFetching_of_some ha, (stepFetching_of_some (s := withBreak b s) ha).trans ?_⟩
    cases k <;> rfl

end Sys2Proof.Machine

/-- Settles O41: a step in Fetching never reads the bit, and a step in Halted only reports the recorded fault. -/
theorem Sys2Proof.Proofs.breakBitIsNeverRead : Obligations.BreakBitIsNeverRead := by
  intro s b
  cases hl : s.loopState with
  | halted =>
    rw [step_halted hl, step_halted (s := withBreak b s) hl]
    exact ⟨fun _ h => (nomatch h), fun _ h => h⟩
  | fetching =>
    obtain ⟨t, b', hs, hb⟩ := stepFetching_breakBlind s b
    rw [step_fetching hl, step_fetching (s := withBreak b s) hl, hs, hb]
    exact ⟨fun u hu => ⟨b', by cases hu; rfl⟩, fun _ h => (nomatch h)⟩
end

-- The status byte
section
/-! PROOFS. The status byte as arithmetic (10_state.md R36, R38, R48). -/

open Sys2Proof.Claims Sys2Proof.Machine

namespace Sys2Proof.Machine

/-- The byte of P is the sum of the flags' weights, which is below 256. -/
theorem byteWith_toNat (p : Status) (b : Bool) :
    (p.byteWith b).toNat = p.n.toNat * 128 + p.v.toNat * 64 + 32 + b.toNat * 16 + p.d.toNat * 8 + p.i.toNat * 4
      + p.z.toNat * 2 + p.c.toNat := by
  have hn := p.n.toNat_le
  have hv := p.v.toNat_le
  have hb := b.toNat_le
  have hd := p.d.toNat_le
  have hi := p.i.toNat_le
  have hz := p.z.toNat_le
  have hc := p.c.toNat_le
  simp only [Status.byteWith, BitVec.toNat_ofNat]
  omega

/-- Bit 5 of the byte of P is 1 (10_state.md R38): the weights below it add up to 31 at most. -/
theorem byteWith_bit5 (p : Status) (b : Bool) : (p.byteWith b).toNat / 32 % 2 = 1 := by
  have hb := b.toNat_le
  have hd := p.d.toNat_le
  have hi := p.i.toNat_le
  have hz := p.z.toNat_le
  have hc := p.c.toNat_le
  rw [byteWith_toNat]
  omega

/-- The arithmetic reading of a status byte is `LoadP` (10_state.md R48). -/
theorem statusOf_eq_load (v : Byte) : statusOf v = Status.load v := by
  simp only [statusOf, Status.load, bit_eq, Nat.reducePow, Nat.div_one]

end Sys2Proof.Machine

/-- Settles O56: the byte is the sum by definition, and loading it gives back what was pushed. -/
theorem Sys2Proof.Proofs.inspectShowsTheStatusByte : Obligations.InspectShowsTheStatusByte := by
  intro s
  refine ⟨rfl, ?_, ?_⟩
  · exact byteWith_bit5 s.p s.p.b
  · exact (statusOf_eq_load _).trans (load_pushed s.p s.p.b)
end

-- The writes of an instruction
section
/-! PROOFS. The bus log tells all that happens to memory (20_memory.md R72, R76): what an instruction writes, at which
addresses, and which bytes it therefore leaves as they were. -/

open Sys2Proof.Claims Sys2Proof.Machine

namespace Sys2Proof.Machine

/-! ### The memory a bus log describes -/

/-- No transaction of the log is a write. -/
def OnlyReads (l : List BusAccess) : Prop := ∀ b v, .write b v ∉ l

theorem replay_append (m : Memory) (l l' : List BusAccess) : replay m (l ++ l') = replay (replay m l) l' := by
  induction l generalizing m with
  | nil => rfl
  | cons access l ih => cases access <;> exact ih _

theorem replay_of_onlyReads (m : Memory) {l : List BusAccess} (hl : OnlyReads l) : replay m l = m := by
  induction l with
  | nil => rfl
  | cons access l ih =>
    cases access with
    | read b => exact ih fun b v hmem => hl b v (List.mem_cons_of_mem _ hmem)
    | write b v => exact absurd List.mem_cons_self (hl b v)

/-- An address the log does not write reads as before it. -/
theorem read_replay_of_unwritten (m : Memory) {l : List BusAccess} {b : Word} (hl : ∀ v, .write b v ∉ l) :
    (replay m l).read b.toNat = m.read b.toNat := by
  induction l generalizing m with
  | nil => rfl
  | cons access l ih =>
    have htail : ∀ v, .write b v ∉ l := fun v hmem => hl v (List.mem_cons_of_mem _ hmem)
    cases access with
    | read => exact ih m htail
    | write c w =>
      have hne : b.toNat ≠ c.toNat := fun heq => hl w (by rw [BitVec.eq_of_toNat_eq heq]; exact List.mem_cons_self)
      exact (ih _ htail).trans (Memory.read_write_other m w hne)

theorem onlyReads_pointerReads (o : Operand) (s : State) : OnlyReads (pointerReads o s) := by
  intro b v
  cases o <;> simp [pointerReads]

theorem onlyReads_operandAccesses (o : Operand) (s : State) : OnlyReads (operandAccesses o s) := by
  intro b v
  cases o <;> simp [operandAccesses, pointerReads]

/-! ### Writing at given addresses only -/

section WritesOnlyAt

/-- From `s` to `t` bus transactions were recorded, all writes among them at addresses of `A`, and memory changed by
those writes and nothing else (20_memory.md R72, R76). -/
def WritesOnlyAt (A : List Word) (s t : State) : Prop :=
  ∃ l, t.bus = s.bus ++ l ∧ t.mem = replay s.mem l ∧ ∀ b v, .write b v ∈ l → b ∈ A

variable {A : List Word} {s t u : State}

theorem writesOnlyAt_of_onlyReads {l : List BusAccess} (hl : OnlyReads l) (hb : t.bus = s.bus ++ l)
    (hm : t.mem = s.mem) : WritesOnlyAt A s t :=
  ⟨l, hb, hm.trans (replay_of_onlyReads s.mem hl).symm, fun b v hmem => absurd hmem (hl b v)⟩

theorem writesOnlyAt_of_eq (hb : t.bus = s.bus) (hm : t.mem = s.mem) : WritesOnlyAt A s t :=
  writesOnlyAt_of_onlyReads (l := []) (fun _ _ => List.not_mem_nil) (by simpa using hb) hm

theorem writesOnlyAt_record {l : List BusAccess} (hl : OnlyReads l) : WritesOnlyAt A s (s.record l) :=
  writesOnlyAt_of_onlyReads hl rfl rfl

theorem writesOnlyAt_pull : WritesOnlyAt A s (pull s).2 :=
  writesOnlyAt_record (s := { s with sp := s.sp + 1 }) (by simp [OnlyReads])

theorem writesOnlyAt_memWrite {addr : Word} (v : Byte) (ha : addr ∈ A) : WritesOnlyAt A s (memWrite addr v s) :=
  ⟨[.write addr v], rfl, rfl, fun b w hmem => by cases List.mem_singleton.mp hmem; exact ha⟩

theorem writesOnlyAt_push (v : Byte) (ha : stackAddress s.sp ∈ A) : WritesOnlyAt A s (push v s) :=
  writesOnlyAt_memWrite v ha

theorem WritesOnlyAt.charge (n : Nat) (h : WritesOnlyAt A s t) : WritesOnlyAt A s (charge n t) := h

theorem WritesOnlyAt.setPc (pc : Word) (h : WritesOnlyAt A s t) : WritesOnlyAt A s { t with pc := pc } := h

theorem WritesOnlyAt.trans (h : WritesOnlyAt A s t) (h' : WritesOnlyAt A t u) : WritesOnlyAt A s u := by
  obtain ⟨l, hb, hm, hl⟩ := h
  obtain ⟨l', hb', hm', hl'⟩ := h'
  refine ⟨l ++ l', by rw [hb', hb, List.append_assoc], by rw [hm', hm, replay_append], fun b v hmem => ?_⟩
  exact (List.mem_append.mp hmem).elim (hl b v) (hl' b v)

/-- A byte outside the written addresses stays as it was. -/
theorem WritesOnlyAt.byteAt_eq (h : WritesOnlyAt A s t) {b : Word} (hb : b ∉ A) :
    t.byteAt b = s.byteAt b := by
  obtain ⟨l, -, hm, hl⟩ := h
  rw [State.byteAt, hm]
  exact read_replay_of_unwritten s.mem fun v hmem => hb (hl b v hmem)

end WritesOnlyAt

/-! ### The stack slots of a push -/

/-- The statements' stack address is the model's (20_memory.md R77). -/
theorem stackByte_eq (sp : Byte) : stackByte sp = stackAddress sp := by
  apply BitVec.eq_of_toNat_eq
  rw [stackAddress_toNat, stackByte, BitVec.toNat_ofNat]
  omega

/-- The stack slots the entry of an exception pushes to: PC high, PC low, P (60_exceptions.md R318). -/
def exceptionSlots (sp : Byte) : List Word := [stackAddress sp, stackAddress (sp - 1), stackAddress (sp - 2)]

/-- The stack slots an instruction pushes to (20_memory.md R78). -/
def pushSlots (m : Mnemonic) (sp : Byte) : List Word :=
  match m with
  | .pha | .php => [stackAddress sp]
  | .jsr => [stackAddress sp, stackAddress (sp - 1)]
  | .brk => exceptionSlots sp
  | _ => []

theorem pushSlots_of_not_pusher {m : Mnemonic} (hm : m ∉ pushers) (sp : Byte) : pushSlots m sp = [] := by
  cases m with
  | pha | php | jsr | brk => exact absurd (by decide) hm
  | _ => rfl

theorem writesOnlyAt_push16 {A : List Word} (w : Word) {s : State} (hhigh : stackAddress s.sp ∈ A)
    (hlow : stackAddress (s.sp - 1) ∈ A) : WritesOnlyAt A s (push16 w s) :=
  (writesOnlyAt_push (highByte w) hhigh).trans (writesOnlyAt_push (lowByte w) hlow)

theorem writesOnlyAt_takeException (ret : Word) (b : Bool) (vector : Word) (s : State) :
    WritesOnlyAt (exceptionSlots s.sp) s (takeException ret b vector s) := by
  have hsp : (push16 ret s).sp = s.sp - 2 := by
    simp only [push16, push_sp]
    bv_omega
  have hret : WritesOnlyAt (exceptionSlots s.sp) s (push16 ret s) :=
    writesOnlyAt_push16 ret (by simp [exceptionSlots]) (by simp [exceptionSlots])
  have hstatus : WritesOnlyAt (exceptionSlots s.sp) (push16 ret s) (push (s.p.pushed b) (push16 ret s)) :=
    writesOnlyAt_push _ (by simp [exceptionSlots, hsp])
  rw [takeException_eq]
  exact (hret.trans hstatus).trans
    (writesOnlyAt_record (l := [.read vector, .read (vector + 1)]) (by simp [OnlyReads]))

theorem writesOnlyAt_interruptEntry (k : InterruptKind) (s : State) :
    WritesOnlyAt (exceptionSlots s.sp) s (interruptEntry k s) := by
  cases k with
  | nmi => exact (writesOnlyAt_takeException s.pc false nmiVector { s with nmiPending := false }).charge 7
  | irq => exact (writesOnlyAt_takeException s.pc false irqVector s).charge 7

/-! ### Every instruction -/

theorem operand_of_accumulator {i : Instr} (hm : i.mode = .accumulator) : i.operand = none := by
  cases i with
  | aslAccumulator | lsrAccumulator | rolAccumulator | rorAccumulator => rfl
  | _ => cases hm

theorem not_storer_of_relative {i : Instr} {o : Byte} (ho : i.operand = some (.relative o)) :
    i.mnemonic ∉ storers := by
  cases i with
  | bpl | bmi | bvc | bvs | bcc | bcs | bne | beq => simp [Instr.mnemonic, storers]
  | _ => cases ho

theorem ReadHandler.not_storer {m : Mnemonic} {h : Byte → State → State} (hh : ReadHandler m h) : m ∉ storers := by
  cases hh <;> decide

theorem StoredRegister.storer {m : Mnemonic} {r : State → Byte} (hr : StoredRegister m r) : m ∈ storers := by
  cases hr <;> decide

theorem ModifyFunction.storer {m : Mnemonic} {f : Byte → Status → Byte × Status} (hf : ModifyFunction m f) :
    m ∈ storers := by
  cases hf <;> decide

theorem ReadHandler.writes {m : Mnemonic} {h : Byte → State → State} (hh : ReadHandler m h) (A : List Word) (v : Byte)
    (s : State) : WritesOnlyAt A s (h v s) := by
  cases hh <;> exact writesOnlyAt_of_eq rfl rfl

/-- The addresses an instruction writes: its effective address if it stores there, or its stack slots
(20_memory.md R76). -/
def writtenAddresses (i : Instr) (s : State) : List Word :=
  (if i.mnemonic ∈ storers then (i.operand.map fun o => effectiveAddress o s).toList else [])
    ++ pushSlots i.mnemonic s.sp

theorem effectiveAddress_mem_writtenAddresses {i : Instr} {o : Operand} (hm : i.mnemonic ∈ storers)
    (ho : i.operand = some o) (s : State) : effectiveAddress o s ∈ writtenAddresses i s := by
  simp [writtenAddresses, hm, ho]

theorem writtenAddresses_of_not_storing {i : Instr} (hi : i.mnemonic ∉ storers ∨ i.mode = .accumulator) (s : State) :
    writtenAddresses i s = pushSlots i.mnemonic s.sp := by
  obtain hm | hacc := hi
  · simp [writtenAddresses, hm]
  · simp [writtenAddresses, operand_of_accumulator hacc]

theorem Implied.writes {i : Instr} (hi : Implied i) (s : State) :
    ∃ t, exec i s = .next t ∧ WritesOnlyAt (writtenAddresses i s) s t := by
  cases hi with
  | pha => exact ⟨_, rfl, writesOnlyAt_push s.a List.mem_cons_self⟩
  | php => exact ⟨_, rfl, writesOnlyAt_push (s.p.pushed true) List.mem_cons_self⟩
  | brk => exact ⟨_, exec_brk s, (writesOnlyAt_takeException (s.pc + 1) true irqVector s).charge 7⟩
  | rts => exact ⟨_, rfl, writesOnlyAt_pull.trans writesOnlyAt_pull⟩
  | rti => exact ⟨_, rfl, (writesOnlyAt_pull.trans writesOnlyAt_pull).trans writesOnlyAt_pull⟩
  | pla | plp => exact ⟨_, rfl, writesOnlyAt_pull⟩
  | inx | iny | dex | dey | tax | tay | txa | tya | tsx | txs | clc | sec | cli | sei | cld | sed | clv | nop =>
    exact ⟨_, rfl, writesOnlyAt_of_eq rfl rfl⟩

/-- Every instruction completes and writes at its addresses only. -/
theorem exec_writes (i : Instr) (s : State) :
    ∃ t, exec i s = .next t ∧ WritesOnlyAt (writtenAddresses i s) s t := by
  cases exec_form i with
  | read hh _ run =>
    exact ⟨_, (run s).trans (readForm_eq ..),
      (writesOnlyAt_record (onlyReads_operandAccesses _ s)).trans (hh.writes _ _ _)⟩
  | store hr ho run =>
    exact ⟨_, (run s).trans (storeForm_eq ..),
      (writesOnlyAt_record (onlyReads_pointerReads _ s)).trans
        (writesOnlyAt_memWrite _ (effectiveAddress_mem_writtenAddresses hr.storer ho s))⟩
  | @modify _ o _ _ _ hf ho run =>
    have hreads : OnlyReads (pointerReads o s ++ [.read (effectiveAddress o s)]) := fun b v => by
      simpa using onlyReads_pointerReads o s b v
    exact ⟨_, (run s).trans (modifyForm_eq ..),
      (writesOnlyAt_record hreads).trans
        (writesOnlyAt_memWrite _ (effectiveAddress_mem_writtenAddresses hf.storer ho s))⟩
  | accumulator _ _ run => exact ⟨_, (run s).trans (accumulatorForm_eq ..), writesOnlyAt_of_eq rfl rfl⟩
  | branch _ run =>
    obtain ⟨n, pc, hb⟩ := branchForm_changes_pc _ _ s
    exact ⟨_, (run s).trans hb, writesOnlyAt_of_eq rfl rfl⟩
  | jump _ _ run =>
    exact ⟨_, (run s).trans (jumpForm_eq ..), writesOnlyAt_record (onlyReads_pointerReads _ s)⟩
  | call a =>
    have hpushed : WritesOnlyAt (writtenAddresses (.jsr a) s) s (push16 (s.pc - 1) s) :=
      writesOnlyAt_push16 _ List.mem_cons_self (List.mem_cons_of_mem _ List.mem_cons_self)
    exact ⟨_, exec_jsr a s, (hpushed.setPc a).charge 6⟩
  | implied hi => exact hi.writes s

/-- What an instruction does not write keeps its byte. -/
theorem exec_byteAt_eq {i : Instr} {s t : State} (h : exec i s = .next t) {b : Word}
    (hb : b ∉ writtenAddresses i s) : t.byteAt b = s.byteAt b := by
  obtain ⟨t', ht', hw⟩ := exec_writes i s
  cases ht'.symm.trans h
  exact hw.byteAt_eq hb

/-! ### The step -/

theorem writesOnlyAt_fetchedBytes {A : List Word} (n : Nat) {s : State} : WritesOnlyAt A s (fetchedBytes n s) :=
  writesOnlyAt_of_onlyReads (by simp [OnlyReads]) rfl rfl

/-- A step in Fetching completes, and its bus log, which it begins empty, tells what it did to memory. -/
theorem stepFetching_writes (s : State) :
    ∃ t A, stepFetching s = .next t ∧ WritesOnlyAt A (beginStep s) t := by
  obtain ⟨k, -, hstep⟩ | ⟨-, -, hstep⟩ | ⟨-, i, hstep⟩ := stepFetching_cases s
  · exact ⟨_, _, hstep, writesOnlyAt_interruptEntry k (beginStep s)⟩
  · exact ⟨_, [], hstep, writesOnlyAt_record (s := beginStep s) (l := [.read s.pc]) (by simp [OnlyReads])⟩
  · obtain ⟨t, ht, hw⟩ := exec_writes i (fetchedBytes i.length (beginStep s))
    exact ⟨t, _, hstep.trans ht, (writesOnlyAt_fetchedBytes i.length).trans hw⟩

end Sys2Proof.Machine

/-- Settles O39: a step that answers a next state is one in Fetching. -/
theorem Sys2Proof.Proofs.memoryIsTheReplayOfTheBusWrites : Obligations.MemoryIsTheReplayOfTheBusWrites := by
  intro s t h
  cases hl : s.loopState with
  | halted => cases (step_halted hl).symm.trans h
  | fetching =>
    obtain ⟨t', A, ht', l, hbus, hmem, -⟩ := stepFetching_writes s
    cases ((step_fetching hl).trans ht').symm.trans h
    rw [hmem, hbus]
    rfl

/-- Settles O24: such an instruction has no address it writes. -/
theorem Sys2Proof.Proofs.nonStoringFormsKeepMemory : Obligations.NonStoringFormsKeepMemory := by
  intro i s t h hi hpush b
  have hnone : writtenAddresses i s = [] :=
    (writtenAddresses_of_not_storing hi s).trans (pushSlots_of_not_pusher hpush s.sp)
  exact exec_byteAt_eq h (by simp [hnone])

/-- Settles O26: the instructions that push store nowhere else. -/
theorem Sys2Proof.Proofs.pushesTouchOnlyTheirStackBytes : Obligations.PushesTouchOnlyTheirStackBytes := by
  intro i s t h
  have hframe : i.mnemonic ∉ storers → ∀ b, b ∉ pushSlots i.mnemonic s.sp → t.byteAt b = s.byteAt b :=
    fun hm b hb => exec_byteAt_eq h (by rwa [writtenAddresses_of_not_storing (.inl hm)])
  simp only [stackByte_eq]
  refine ⟨fun hm b hb => ?_, fun hm b hb hb1 => ?_, fun hm b hb hb1 hb2 => ?_⟩
  · obtain hm | hm : i.mnemonic = .pha ∨ i.mnemonic = .php := by simpa using hm
    all_goals
      rw [hm] at hframe
      exact hframe (by decide) b (by simp [pushSlots, hb])
  · rw [hm] at hframe
    exact hframe (by decide) b (by simpa [pushSlots, hb] using hb1)
  · rw [hm] at hframe
    exact hframe (by decide) b (by simpa [pushSlots, exceptionSlots, hb] using ⟨hb1, hb2⟩)
end

-- The next opcode
section
/-! PROOFS. The next step fetches the byte at PC, whoever wrote it (20_memory.md R89). -/

open Sys2Proof.Claims Sys2Proof.Machine

namespace Sys2Proof

theorem decode_encode (i : Instr) (rest : List Byte) : decode (encode i ++ rest) = .ok (i, rest) := by
  obtain ⟨r, hr, -, -, hshape⟩ := opcodeRow_opcode i
  obtain ⟨hop, hsound⟩ := opcodeRow_sound hr
  rw [← hop] at hr
  unfold OpcodeRow.Sound at hsound
  obtain hs | ⟨make, b, hs, rfl⟩ | ⟨make, a, hs, rfl⟩ := hshape <;> rw [hs] at hsound
  · simp [hsound.1, decode, hr, hs]
  · simp [(hsound b).1, decode, hr, hs]
  · simp [(hsound a).1, decode, hr, hs]

theorem opcodeRow_of_invalid {v : Byte} (hv : v ∈ invalidOpcodes) : opcodeRow v = none := by
  have hall : (invalidOpcodes.all fun v => (opcodeRow v).isNone) = true := by decide
  exact Option.isNone_iff_eq_none.mp (List.all_eq_true.mp hall v hv)

theorem opcodeRow_of_decode {l rest : List Byte} {i : Instr} {op : Byte} (h : decode (op :: l) = .ok (i, rest)) :
    ∃ r, opcodeRow op = some r := by
  cases hr : opcodeRow op with
  | some r => exact ⟨r, rfl⟩
  | none => simp [decode, hr] at h

namespace Machine

theorem step_of_running {s : State} (hs : Running s) : step s = executeOne (beginStep s) := by
  obtain ⟨hfetching, hnmi, hirq⟩ := hs
  have hnone : acceptedInterrupt s = none := by
    obtain hline | hmask := hirq
    · simp [acceptedInterrupt, hnmi, hline]
    · simp [acceptedInterrupt, hnmi, hmask]
  rw [step_fetching hfetching, stepFetching_of_none hnone]

/-- The instruction that runs is the one the bytes at PC decode to. -/
theorem executeOne_of_decode {s : State} {i : Instr} {rest : List Byte} (h : decode (bytesAtPc s) = .ok (i, rest)) :
    (encode i).head? = some (s.byteAt s.pc) ∧ executeOne s = exec i (fetchedBytes i.length s) := by
  obtain ⟨r, hr⟩ := opcodeRow_of_decode h
  obtain ⟨j, -, -, ⟨rest', hbytes⟩, hrun⟩ := executeOne_runs hr
  obtain ⟨rfl, -⟩ : j = i ∧ rest' = rest := by
    have hj := decode_encode j rest'
    rw [hbytes] at hj
    simpa using hj.symm.trans h
  refine ⟨?_, hrun⟩
  have hne : encode j ≠ [] := by
    rw [← List.length_pos_iff, encode_length, Instr.length]
    omega
  rw [← List.head?_append_of_ne_nil _ hne, hbytes]
  rfl

theorem fetchesNext_of_byteAt {v : Byte} {t : State} (hv : t.byteAt t.pc = v) : FetchesNext v t := by
  subst hv
  refine ⟨rfl, fun hrun hinv => ?_, fun hrun i rest hdec => ?_⟩
  · have hnone : opcodeRow ((beginStep t).byteAt (beginStep t).pc) = none := opcodeRow_of_invalid hinv
    exact ⟨_, (step_of_running hrun).trans (executeOne_invalid hnone), rfl, rfl⟩
  · obtain ⟨hop, hexec⟩ := executeOne_of_decode (s := beginStep t) hdec
    exact ⟨hop, (step_of_running hrun).trans hexec⟩

/-- The last write of a log at an address is what its memory holds there. -/
theorem read_replay_of_last_write (m : Memory) (l : List BusAccess) {l' : List BusAccess} {b : Word} (v : Byte)
    (hl : ∀ w, .write b w ∉ l') : (replay m (l ++ .write b v :: l')).read b.toNat = v := by
  rw [replay_append, replay, read_replay_of_unwritten _ hl, Memory.read_write_same]

theorem ModifyFunction.not_register_store {m : Mnemonic} {f : Byte → Status → Byte × Status}
    (hf : ModifyFunction m f) : m ≠ .sta ∧ m ≠ .stx ∧ m ≠ .sty := by
  cases hf <;> decide

/-- A storing form keeps PC and ends with one write at its effective address, of the register for STA, STX and STY
(20_memory.md R76; 40_addressing_modes.md R146). -/
theorem exec_of_storer {i : Instr} {o : Operand} (hm : i.mnemonic ∈ storers) (ho : i.operand = some o) (s : State) :
    ∃ t l v, exec i s = .next t ∧ t.pc = s.pc ∧ t.bus = s.bus ++ l ++ [.write (effectiveAddress o s) v] ∧
      t.mem = s.mem.write (effectiveAddress o s).toNat v ∧
      (i.mnemonic = .sta → v = s.a) ∧ (i.mnemonic = .stx → v = s.x) ∧ (i.mnemonic = .sty → v = s.y) := by
  cases exec_form i with
  | read hh _ _ => exact absurd hm hh.not_storer
  | store hr ho' run =>
    cases ho.symm.trans ho'
    refine ⟨_, pointerReads o s, _, (run s).trans (storeForm_eq ..), rfl, rfl, rfl, ?_⟩
    generalize i.mnemonic = m at hr
    cases hr <;> simp
  | modify hf ho' run =>
    cases ho.symm.trans ho'
    obtain ⟨hsta, hstx, hsty⟩ := hf.not_register_store
    exact ⟨_, pointerReads o s ++ [.read (effectiveAddress o s)], _, (run s).trans (modifyForm_eq ..), rfl, rfl, rfl,
      fun h => absurd h hsta, fun h => absurd h hstx, fun h => absurd h hsty⟩
  | accumulator _ hacc _ => exact absurd (ho.symm.trans (operand_of_accumulator hacc)) nofun
  | branch ho' _ => exact absurd hm (not_storer_of_relative ho')
  | jump hjmp _ _ => exact absurd hm (by rw [hjmp]; decide)
  | call a => exact absurd hm (by simp [Instr.mnemonic, storers])
  | implied hi => cases hi <;> exact nomatch ho

end Machine

end Sys2Proof

/-- Settles O43: the byte at PC is the last one written there, by the step, by a storing form or by a push. -/
theorem Sys2Proof.Proofs.storedByteIsTheNextOpcode : Obligations.StoredByteIsTheNextOpcode := by
  refine ⟨fun s t l l' v hstep hbus hlast => ?_, fun i o s t hexec hm ho hea => ?_, fun s hsp => ?_⟩
  · apply fetchesNext_of_byteAt
    rw [State.byteAt, Sys2Proof.Proofs.memoryIsTheReplayOfTheBusWrites s t hstep, hbus]
    exact read_replay_of_last_write s.mem l v hlast
  · obtain ⟨t', l, v, ht', hpc, hbus, hmem, hregs⟩ := exec_of_storer hm ho s
    cases ht'.symm.trans hexec
    rw [hea] at hbus hmem
    refine ⟨l, v, hbus, hpc, fetchesNext_of_byteAt ?_, hregs⟩
    rw [State.byteAt, hmem, hpc, Memory.read_write_same]
  · rw [stackByte_eq] at hsp
    have hpushed : ∀ v, (push v s).byteAt s.pc = v := fun v => by rw [byteAt_push, if_pos hsp.symm]
    exact ⟨⟨_, rfl, rfl, fetchesNext_of_byteAt (hpushed s.a)⟩,
      ⟨_, rfl, rfl, fetchesNext_of_byteAt (hpushed (s.p.pushed true))⟩⟩
end

-- The encoding
section
/-! PROOFS. The decoder and the encoder are each other's inverse, the Invalid opcodes are the listed ones, and the
dispatch table describes every instruction (30_encoding.md). -/

open Sys2Proof.Claims Sys2Proof.Machine

namespace Sys2Proof

/-! ### The decoder's answers -/

/-- The decoder reads every bit: what it gives back encodes to the bytes it consumed (30_encoding.md R106). -/
theorem eq_encode_append_of_decode {l rest : List Byte} {i : Instr} (h : decode l = .ok (i, rest)) :
    l = encode i ++ rest := by
  cases l with
  | nil => cases h
  | cons op l =>
    obtain ⟨r, hr⟩ := opcodeRow_of_decode h
    obtain ⟨rfl, hsound⟩ := opcodeRow_sound hr
    simp only [decode, hr] at h
    unfold OpcodeRow.Sound at hsound
    split at h
    next j hs =>
      cases h
      rw [hs] at hsound
      rw [hsound.1, List.singleton_append]
    next make b l hs =>
      cases h
      rw [hs] at hsound
      rw [(hsound b).1, List.cons_append, List.singleton_append]
    next make lo hi l hs =>
      cases h
      rw [hs] at hsound
      simp [(hsound (joinBytes hi lo)).1]
    next => cases h

/-- The decoder refuses a byte as an opcode exactly when the dispatch table has no entry for it. -/
theorem decode_eq_invalidOpcode_iff (op : Byte) (rest : List Byte) :
    decode (op :: rest) = .error (.invalidOpcode op) ↔ opcodeRow op = none := by
  cases hr : opcodeRow op with
  | none => simp [decode, hr]
  | some r =>
    simp only [decode, hr, reduceCtorEq, iff_false]
    split <;> nofun

/-- The bytes without an entry in the dispatch table, all 256 bytes looked up (30_encoding.md R105). -/
theorem opcodeRow_eq_none_iff (op : Byte) : opcodeRow op = none ↔ op ∈ invalidOpcodes := by
  have hlisted : ∀ op : Byte, (opcodeRow op).isNone = true → op ∈ invalidOpcodes := by decide
  exact ⟨fun h => hlisted op (Option.isNone_iff_eq_none.mpr h), opcodeRow_of_invalid⟩

/-! ### The descriptors -/

theorem Instr.wellFormed_eq_true (i : Instr) : i.wellFormed = true := by cases i <;> rfl

/-- An instruction has no operand exactly when its mode has no operand bytes (30_encoding.md R100). -/
theorem Instr.operand_eq_none_iff (i : Instr) : i.operand = none ↔ i.mode.width = 0 := by
  have hwf := i.wellFormed_eq_true
  simp only [Instr.wellFormed, Bool.and_eq_true, beq_iff_eq] at hwf
  rw [← Option.not_isSome_iff_eq_none, hwf.2, bne_iff_ne, not_not]

/-- The NoOperand opcodes are those of the two modes without operand bytes (30_encoding.md R101). -/
theorem descriptor_of_opcodeRow {op : Byte} {r : OpcodeRow} (h : opcodeRow op = some r) :
    descriptor op =
      if r.mode.width = 0 then .noOperand r.mnemonic r.baseCycles
      else .withOperand r.mnemonic r.baseCycles r.mode := by
  simp only [descriptor, h]
  cases r.mode <;> rfl

theorem descriptor_opcode (i : Instr) :
    descriptor i.opcode =
      if i.mode.width = 0 then .noOperand i.mnemonic i.baseCycles
      else .withOperand i.mnemonic i.baseCycles i.mode := by
  obtain ⟨r, hr, hmnemonic, hmode, -⟩ := opcodeRow_opcode i
  have hcycles : i.baseCycles = r.baseCycles := by simp [Instr.baseCycles, hr]
  rw [descriptor_of_opcodeRow hr, hmnemonic, hmode, hcycles]

end Sys2Proof

/-- Settles O46: the entry of an instruction's opcode makes that instruction from its operand bytes. -/
theorem Sys2Proof.Proofs.decodeInvertsEncode : Obligations.DecodeInvertsEncode :=
  decode_encode

/-- Settles O47: every entry of the dispatch table makes instructions that encode to the bytes it consumes. -/
theorem Sys2Proof.Proofs.encodeInvertsDecode : Obligations.EncodeInvertsDecode :=
  fun _ _ _ => eq_encode_append_of_decode

/-- Settles O48: the refused bytes are those without an entry in the dispatch table. -/
theorem Sys2Proof.Proofs.invalidOpcodesAreTheListed105 : Obligations.InvalidOpcodesAreTheListed105 :=
  ⟨rfl, fun op rest => (decode_eq_invalidOpcode_iff op rest).trans (opcodeRow_eq_none_iff op)⟩

/-- Settles O49: an instruction lacks an operand exactly when its mode has no operand bytes, which is when its
descriptor is NoOperand. -/
theorem Sys2Proof.Proofs.descriptorsMatchInstructions : Obligations.DescriptorsMatchInstructions := by
  intro i
  rw [ne_eq, i.operand_eq_none_iff, descriptor_opcode]
  exact ⟨fun h => if_pos h, fun h => if_neg h, encode_length i, i.wellFormed_eq_true⟩

/-- Settles O50, by running the decoder on each word. -/
theorem Sys2Proof.Proofs.sampleWordsDecode : Obligations.SampleWordsDecode := by
  unfold Obligations.SampleWordsDecode
  decide
end

-- The effective addresses
section
/-! PROOFS. The resolvers in natural-number arithmetic (40_addressing_modes.md R132 to R144), and the one byte a storing
form changes (R146). -/

open Sys2Proof.Claims Sys2Proof.Machine

namespace Sys2Proof.Machine

/-! ### The statements' arithmetic as the model's operations -/

theorem wordOf_eq_joinBytes (h l : Byte) : wordOf h l = joinBytes h l := by
  apply BitVec.eq_of_toNat_eq
  rw [joinBytes_toNat, wordOf, BitVec.toNat_ofNat]
  omega

/-- A sum reduced modulo 256 is an address of the zero page, of the byte sum (40_addressing_modes.md R134, R135). -/
theorem ofNat_mod_256_eq_zeroPageAddress (n : Nat) :
    BitVec.ofNat 16 (n % 256) = zeroPageAddress (BitVec.ofNat 8 n) := by
  apply BitVec.eq_of_toNat_eq
  rw [zeroPageAddress_toNat, BitVec.toNat_ofNat, BitVec.toNat_ofNat]
  omega

/-- An indexed address leaves its page when its high byte changes (40_addressing_modes.md R144). -/
theorem decide_page_ne (b : Word) (i : Byte) :
    decide ((b.toNat + i.toNat) % 65536 / 256 ≠ b.toNat / 256) = (highByte (b + zeroExtend i) != highByte b) := by
  rw [Bool.eq_iff_iff, decide_eq_true_iff, bne_iff_ne, ne_eq, ne_eq, ← BitVec.toNat_inj, highByte_toNat,
    highByte_toNat, BitVec.toNat_add, zeroExtend_toNat]

theorem pointerHigh_eq (p : Word) : pointerHigh p = indirectHighAddress p := by
  apply BitVec.eq_of_toNat_eq
  have hp := p.isLt
  rw [indirectHighAddress_toNat, pointerHigh]
  split <;> rw [BitVec.toNat_ofNat] <;> omega

theorem branchTarget_eq (o : Byte) (s : State) : branchTarget o s = s.pc + signExtend o := by
  rw [branchTarget, BitVec.ofInt_add, BitVec.ofInt_natCast, BitVec.ofNat_toNat, BitVec.setWidth_eq, signExtend,
    BitVec.signExtend]

end Sys2Proof.Machine

/-- Settles O29: in the model's operations each clause is the definition of its resolver. -/
theorem Sys2Proof.Proofs.resolversComputeTheirAddresses : Obligations.ResolversComputeTheirAddresses := by
  intro s v z o a p
  simp only [ofNat_mod_256_eq_zeroPageAddress, decide_page_ne, wordOf_eq_joinBytes, pointerHigh_eq,
    branchTarget_eq, BitVec.ofNat_add, BitVec.ofNat_toNat, BitVec.setWidth_eq]
  and_intros <;> rfl

/-- Settles O25: memory after a storing form is the old one with one write, at the effective address. -/
theorem Sys2Proof.Proofs.storingFormsTouchOneByte : Obligations.StoringFormsTouchOneByte := by
  intro i o s t h hm ho
  obtain ⟨t', -, v, ht', -, -, hmem, hsta, hstx, hsty⟩ := exec_of_storer hm ho s
  cases ht'.symm.trans h
  have hea : t.byteAt (effectiveAddress o s) = v := by rw [State.byteAt, hmem, Memory.read_write_same]
  have hother : ∀ b, b ≠ effectiveAddress o s → t.byteAt b = s.byteAt b := fun b hb => by
    rw [State.byteAt, hmem, Memory.read_write_other _ _ (by rwa [ne_eq, BitVec.toNat_inj]), State.byteAt]
  exact ⟨hother, fun hi => hea.trans (hsta hi), fun hi => hea.trans (hstx hi), fun hi => hea.trans (hsty hi)⟩
end

-- The loads and stores
section
/-! PROOFS. A loading form and a storing form in the statements' terms (41_load_store.md R160 to R165), for every operand,
base count and penalty class. Each row of the encoding tables is one of the two with its own operand, base and class. -/

open Sys2Proof.Claims Sys2Proof.Machine

namespace Sys2Proof.Machine

/-- The Zero/Negative rule in the model's bits (10_state.md R41). -/
theorem nz_eq_setNZ (v : Byte) (p : Status) : nz v p = p.setNZ v := by
  have hz : v.toNat = 0 ↔ v = 0 := BitVec.toNat_inj (y := 0)
  simp only [nz, Status.setNZ, bit7_eq, hz]

/-- The cycle a crossed page adds in each penalty class (48_execute_loop.md R288). -/
def penaltyCycles (cls : PenaltyClass) (o : Operand) (s : State) : Nat :=
  match cls with
  | .never => 0
  | .read => crossing o s
  | .storeRmw => storeCrossing o s

theorem pagePenalty_eq (cls : PenaltyClass) (o : Operand) (s : State) :
    pagePenalty cls (pageCrossed o s) s.params = penaltyCycles cls o s := by
  cases cls with
  | never | read => rfl
  | storeRmw => simp only [pagePenalty, penaltyCycles, storeCrossing, Bool.and_eq_true]

/-! ### Loading forms -/

/-- A reading instruction, whole, its cycles in the statements' terms. -/
theorem readForm_penaltyCycles (o : Operand) (base : Nat) (cls : PenaltyClass) (handler : Byte → State → State)
    (s : State) :
    readForm o base cls handler s =
      .next (charge (base + penaltyCycles cls o s) (handler (operandValue o s) (s.record (operandAccesses o s)))) := by
  rw [readForm_eq, pagePenalty_eq]

theorem readForm_loadA (o : Operand) (base : Nat) (cls : PenaltyClass) (s : State) :
    readForm o base cls loadA s = .next (setsA o (operandValue o s) (base + penaltyCycles cls o s) s) := by
  rw [readForm_penaltyCycles, setsA, nz_eq_setNZ]
  rfl

theorem readForm_loadX (o : Operand) (base : Nat) (cls : PenaltyClass) (s : State) :
    readForm o base cls loadX s = .next (setsX o (operandValue o s) (base + penaltyCycles cls o s) s) := by
  rw [readForm_penaltyCycles, setsX, nz_eq_setNZ]
  rfl

theorem readForm_loadY (o : Operand) (base : Nat) (cls : PenaltyClass) (s : State) :
    readForm o base cls loadY s = .next (setsY o (operandValue o s) (base + penaltyCycles cls o s) s) := by
  rw [readForm_penaltyCycles, setsY, nz_eq_setNZ]
  rfl

/-! ### Storing forms -/

/-- The pointer reads of the resolver leave the stored register as it was. -/
theorem StoredRegister.record {m : Mnemonic} {r : State → Byte} (hr : StoredRegister m r) (l : List BusAccess)
    (s : State) : r (s.record l) = r s := by
  cases hr <;> rfl

theorem storeForm_register {m : Mnemonic} {r : State → Byte} (hr : StoredRegister m r) (o : Operand) (base : Nat)
    (cls : PenaltyClass) (s : State) :
    storeForm o base cls r s = .next (afterStore o (r s) (base + penaltyCycles cls o s) s) := by
  rw [storeForm_eq, hr.record, pagePenalty_eq, memWrite, record_record]
  rfl

end Sys2Proof.Machine

/-- Settles O1: each row is a loading form of its register, with the operand, base count and class of the table. -/
theorem Sys2Proof.Proofs.loadInstructionsComplete : Obligations.LoadInstructionsComplete := fun s v z a =>
  ⟨⟨rfl, rfl, readForm_loadA (.immediate v) 2 .never s⟩,
    ⟨rfl, rfl, readForm_loadA (.zeroPage z) 3 .never s⟩,
    ⟨rfl, rfl, readForm_loadA (.zeroPageX z) 4 .never s⟩,
    ⟨rfl, rfl, readForm_loadA (.absolute a) 4 .never s⟩,
    ⟨rfl, rfl, readForm_loadA (.absoluteX a) 4 .read s⟩,
    ⟨rfl, rfl, readForm_loadA (.absoluteY a) 4 .read s⟩,
    ⟨rfl, rfl, readForm_loadA (.indexedIndirectX z) 6 .never s⟩,
    ⟨rfl, rfl, readForm_loadA (.indirectIndexedY z) 5 .read s⟩,
    ⟨rfl, rfl, readForm_loadX (.immediate v) 2 .never s⟩,
    ⟨rfl, rfl, readForm_loadX (.zeroPage z) 3 .never s⟩,
    ⟨rfl, rfl, readForm_loadX (.zeroPageY z) 4 .never s⟩,
    ⟨rfl, rfl, readForm_loadX (.absolute a) 4 .never s⟩,
    ⟨rfl, rfl, readForm_loadX (.absoluteY a) 4 .read s⟩,
    ⟨rfl, rfl, readForm_loadY (.immediate v) 2 .never s⟩,
    ⟨rfl, rfl, readForm_loadY (.zeroPage z) 3 .never s⟩,
    ⟨rfl, rfl, readForm_loadY (.zeroPageX z) 4 .never s⟩,
    ⟨rfl, rfl, readForm_loadY (.absolute a) 4 .never s⟩,
    ⟨rfl, rfl, readForm_loadY (.absoluteX a) 4 .read s⟩⟩

/-- Settles O2: each row is the storing form of its register, with the operand, base count and class of the table. -/
theorem Sys2Proof.Proofs.storeInstructionsComplete : Obligations.StoreInstructionsComplete := fun s z a =>
  ⟨⟨rfl, rfl, storeForm_register .sta (.zeroPage z) 3 .never s⟩,
    ⟨rfl, rfl, storeForm_register .sta (.zeroPageX z) 4 .never s⟩,
    ⟨rfl, rfl, storeForm_register .sta (.absolute a) 4 .never s⟩,
    ⟨rfl, rfl, storeForm_register .sta (.absoluteX a) 5 .storeRmw s⟩,
    ⟨rfl, rfl, storeForm_register .sta (.absoluteY a) 5 .storeRmw s⟩,
    ⟨rfl, rfl, storeForm_register .sta (.indexedIndirectX z) 6 .never s⟩,
    ⟨rfl, rfl, storeForm_register .sta (.indirectIndexedY z) 6 .storeRmw s⟩,
    ⟨rfl, rfl, storeForm_register .stx (.zeroPage z) 3 .never s⟩,
    ⟨rfl, rfl, storeForm_register .stx (.zeroPageY z) 4 .never s⟩,
    ⟨rfl, rfl, storeForm_register .stx (.absolute a) 4 .never s⟩,
    ⟨rfl, rfl, storeForm_register .sty (.zeroPage z) 3 .never s⟩,
    ⟨rfl, rfl, storeForm_register .sty (.zeroPageX z) 4 .never s⟩,
    ⟨rfl, rfl, storeForm_register .sty (.absolute a) 4 .never s⟩⟩
end

-- The arithmetic instructions
section
/-! PROOFS. Addition, subtraction, comparison and counting in natural numbers and integers (42_arithmetic.md R170 to
R187). Each row of the encoding tables is one instruction shape with its own operand, base count and penalty class. -/

open Sys2Proof.Claims Sys2Proof.Machine

namespace Sys2Proof.Machine

/-! ### The binary sum -/

theorem ofNat_eq_zero_iff (t : Nat) : BitVec.ofNat 8 t = 0 ↔ t % 256 = 0 := by
  rw [← BitVec.toNat_inj, BitVec.toNat_ofNat]
  rfl

/-- Overflow says that the exact signed sum does not fit a signed byte (42_arithmetic.md R170): the operands have the
sign the result lacks. -/
theorem addBinary_overflow (a m : Byte) (c : Bool) :
    (addBinary a m c).overflow = decide (a.toInt + m.toInt + c.toNat < -128 ∨ 127 < a.toInt + m.toInt + c.toNat) := by
  have ha := a.isLt
  have hm := m.isLt
  have hc := c.toNat_le
  simp only [addBinary, bit7_eq, BitVec.toNat_ofNat, BitVec.toInt_eq_toNat_cond]
  rw [Bool.eq_iff_iff]
  simp only [Bool.and_eq_true, beq_iff_eq, bne_iff_ne, ne_eq, decide_eq_decide, decide_eq_true_iff]
  split <;> split <;> omega

/-- The flags of a binary sum from its exact value (42_arithmetic.md R170, R171). -/
theorem setSum_addBinary (p : Status) (a m : Byte) (c : Bool) :
    p.setSum (addBinary a m c) =
      sumFlags p (a.toNat + m.toNat + c.toNat : Nat) (a.toInt + m.toInt + c.toNat)
        (decide (255 < a.toNat + m.toNat + c.toNat)) := by
  have hz : (addBinary a m c).r = 0 ↔ ((a.toNat + m.toNat + c.toNat : Nat) : Int) % 256 = 0 := by
    rw [addBinary, ofNat_eq_zero_iff]
    omega
  have hn : 128 ≤ (addBinary a m c).r.toNat ↔ 128 ≤ ((a.toNat + m.toNat + c.toNat : Nat) : Int) % 256 := by
    rw [addBinary, BitVec.toNat_ofNat]
    omega
  simp only [Status.setSum, Status.setNZ, sumFlags, bit7_eq, hz, hn, addBinary_overflow]
  rfl

/-- The flags look at the sum modulo 256 only. -/
theorem sumFlags_add_256 (p : Status) (r signed : Int) (carry : Bool) :
    sumFlags p (r + 256) signed carry = sumFlags p r signed carry := by
  simp only [sumFlags, Int.add_emod_right]

/-! ### The decimal digits -/

theorem lowDigit_toNat (v : Byte) : (v &&& 0x0F).toNat = v.toNat % 16 := by
  rw [BitVec.toNat_and]
  exact Nat.and_two_pow_sub_one_eq_mod v.toNat 4

theorem highDigit_toNat (v : Byte) : (v &&& 0xF0).toNat = v.toNat / 16 * 16 := by
  revert v
  decide

/-- Bit 7 of a number's byte. -/
theorem ofNat_bit7 (t : Nat) : (BitVec.ofNat 8 t).getLsbD 7 = decide (t / 128 % 2 = 1) := by
  rw [bit_eq, BitVec.toNat_ofNat, decide_eq_decide]
  omega

theorem decimalAdd_eq_adcSpec (a m : Byte) {p : Status} (hd : p.d = true) : decimalAdd a m p = adcSpec a m p := by
  have ha := a.isLt
  have hm := m.isLt
  have hv (t : Nat) : (a.getLsbD 7 == m.getLsbD 7 && decide (t / 128 % 2 = 1) != a.getLsbD 7) =
      decide (a.toNat / 128 = m.toNat / 128 ∧ t / 128 % 2 ≠ a.toNat / 128) := by
    rw [Bool.eq_iff_iff]
    simp only [bit7_eq, Bool.and_eq_true, beq_iff_eq, bne_iff_ne, ne_eq, decide_eq_true_iff, decide_eq_decide]
    omega
  simp only [decimalAdd, decimalAddFull, decimalAddMid, decimalAddLow, lowDigit_toNat, highDigit_toNat,
    ofNat_eq_zero_iff, ofNat_bit7, hv, ge_iff_le, adcSpec, hd, Bool.true_eq_false, if_false]

/-- ADC in both modes (42_arithmetic.md R171, R172). -/
theorem addWithCarry_eq_adcSpec (a m : Byte) (p : Status) : addWithCarry a m p = adcSpec a m p := by
  cases hd : p.d with
  | true => rw [addWithCarry, if_pos hd, decimalAdd_eq_adcSpec a m hd]
  | false =>
    simp only [addWithCarry, adcSpec, hd, Bool.false_eq_true, if_false, if_true, setSum_addBinary]
    rfl

/-! ### The difference -/

/-- Subtraction adds the complement, which is 256 more than the exact difference (42_arithmetic.md R173). -/
theorem add_complement_toNat (a m : Byte) (c : Bool) :
    ((a.toNat + (~~~m).toNat + c.toNat : Nat) : Int) = a.toNat - m.toNat - (1 - c.toNat) + 256 := by
  have hm := m.isLt
  rw [BitVec.toNat_not]
  omega

theorem setSum_addBinary_complement (p : Status) (a m : Byte) (c : Bool) :
    p.setSum (addBinary a (~~~m) c) =
      sumFlags p (a.toNat - m.toNat - (1 - c.toNat)) (a.toInt - m.toInt - (1 - c.toNat))
        (decide (0 ≤ (a.toNat : Int) - m.toNat - (1 - c.toNat))) := by
  have hm := m.isLt
  have hdiff := add_complement_toNat a m c
  have hsigned : a.toInt + (~~~m).toInt + c.toNat = a.toInt - m.toInt - (1 - c.toNat) := by
    simp only [BitVec.toInt_eq_toNat_cond, BitVec.toNat_not]
    split <;> split <;> omega
  have hcarry : 255 < a.toNat + (~~~m).toNat + c.toNat ↔ 0 ≤ (a.toNat : Int) - m.toNat - (1 - c.toNat) := by omega
  rw [setSum_addBinary, hdiff, sumFlags_add_256, hsigned, decide_eq_decide.mpr hcarry]

theorem addBinary_complement_r (a m : Byte) (c : Bool) :
    (addBinary a (~~~m) c).r = BitVec.ofInt 8 (a.toNat - m.toNat - (1 - c.toNat)) := by
  rw [addBinary, ← BitVec.ofInt_natCast, add_complement_toNat, BitVec.ofInt_add]
  exact BitVec.add_zero _

/-- SBC in both modes (42_arithmetic.md R173, R174). -/
theorem subtractWithCarry_eq_sbcSpec (a m : Byte) (p : Status) : subtractWithCarry a m p = sbcSpec a m p := by
  rw [subtractWithCarry, setSum_addBinary_complement, addBinary_complement_r, sbcSpec]
  cases hd : p.d with
  | true =>
    simp only [decimalSub, decimalSubLow, lowDigit_toNat, highDigit_toNat, Bool.true_eq_false, if_false, if_true]
  | false => simp only [Bool.false_eq_true, if_false, if_true]

/-! ### Valid BCD operands -/

theorem bcd_toNat {n : Nat} (hn : n < 100) : (bcd n).toNat = n / 10 * 16 + n % 10 := by
  rw [bcd, BitVec.toNat_ofNat]
  omega

theorem bcd_div_16 {n : Nat} (hn : n < 100) : (bcd n).toNat / 16 = n / 10 := by
  rw [bcd_toNat hn]
  omega

theorem bcd_mod_16 {n : Nat} (hn : n < 100) : (bcd n).toNat % 16 = n % 10 := by
  rw [bcd_toNat hn]
  omega

/-- The low digit's correction carries a decimal ten into the high digit (42_arithmetic.md R172, first `t`). -/
theorem decimalAdd_lowCorrected {m n c low : Nat} (hc : c ≤ 1) (hlow : low = m % 10 + n % 10 + c) :
    m / 10 * 16 + n / 10 * 16 + (if 10 ≤ low then (low + 6) % 16 + 16 else low) =
      (m + n + c) / 10 * 16 + (m + n + c) % 10 := by
  split <;> omega

/-- The high digit's correction carries a decimal hundred into bit 8 (42_arithmetic.md R172, last `t`). -/
theorem decimalAdd_highCorrected {s t : Nat} (hs : s < 200) (ht : t = s / 10 * 16 + s % 10) :
    (if 160 ≤ t then t + 96 else t) = s / 100 * 256 + (bcd (s % 100)).toNat := by
  rw [bcd_toNat (Nat.mod_lt s (by decide))]
  split <;> omega

/-- The corrected decimal sum of two BCD bytes (42_arithmetic.md R172). -/
theorem adcSpec_bcd {m n : Nat} {p : Status} (hm : m < 100) (hn : n < 100) (hd : p.d = true) :
    (adcSpec (bcd m) (bcd n) p).1 = bcd ((m + n + p.c.toNat) % 100) ∧
      (adcSpec (bcd m) (bcd n) p).2.c = decide (100 ≤ m + n + p.c.toNat) := by
  have hc := p.c.toNat_le
  have hlt := (bcd ((m + n + p.c.toNat) % 100)).isLt
  simp only [adcSpec, hd, Bool.true_eq_false, if_false, bcd_div_16 hm, bcd_div_16 hn, bcd_mod_16 hm, bcd_mod_16 hn,
    decimalAdd_lowCorrected hc rfl, decimalAdd_highCorrected (show m + n + p.c.toNat < 200 by omega) rfl]
  constructor
  · rw [← BitVec.toNat_inj, BitVec.toNat_ofNat]
    omega
  · rw [decide_eq_decide]
    omega

/-- The low digit's correction borrows a decimal ten from the high digit (42_arithmetic.md R174). -/
theorem decimalSub_lowCorrected {m n c : Nat} {low : Int} (hc : c ≤ 1)
    (hlow : low = (m % 10 : Nat) - (n % 10 : Nat) + c - 1) :
    (m / 10 * 16 : Nat) - (n / 10 * 16 : Nat) + (if low < 0 then (low - 6) % 16 - 16 else low) =
      ((m : Int) - n + c - 1) / 10 * 16 + ((m : Int) - n + c - 1) % 10 := by
  split <;> omega

/-- The high digit's correction borrows a decimal hundred (42_arithmetic.md R174). -/
theorem decimalSub_highCorrected {r t : Int} {k : Nat} (hlo : -100 ≤ r) (hhi : r < 100) (hk : r % 100 = k)
    (ht : t = r / 10 * 16 + r % 10) : BitVec.ofInt 8 (if t < 0 then t - 96 else t) = bcd k := by
  have hbcd := bcd_toNat (show k < 100 by omega)
  rw [← BitVec.toNat_inj, BitVec.toNat_ofInt, hbcd]
  obtain hneg | hpos := lt_or_ge r 0
  · obtain rfl : r = (k : Int) - 100 := by omega
    rw [if_pos (by omega)]
    omega
  · obtain rfl : r = k := by omega
    rw [if_neg (by omega)]
    omega

/-- The corrected decimal difference of two BCD bytes (42_arithmetic.md R174); BCD bytes are in the order of the numbers
they stand for, so the binary borrow is the decimal one. -/
theorem sbcSpec_bcd {m n : Nat} {p : Status} (hm : m < 100) (hn : n < 100) (hd : p.d = true) :
    (sbcSpec (bcd m) (bcd n) p).1 = bcd ((m + 99 + p.c.toNat - n) % 100) ∧
      (sbcSpec (bcd m) (bcd n) p).2.c = decide (n + 1 ≤ m + p.c.toNat) := by
  have hc := p.c.toNat_le
  constructor
  · simp only [sbcSpec, hd, Bool.true_eq_false, if_false, bcd_div_16 hm, bcd_div_16 hn, bcd_mod_16 hm, bcd_mod_16 hn,
      decimalSub_lowCorrected hc rfl]
    exact decimalSub_highCorrected (by omega) (by omega) (by omega) rfl
  · simp only [sbcSpec, hd, Bool.true_eq_false, if_false, sumFlags, bcd_toNat hm, bcd_toNat hn, decide_eq_decide]
    omega

/-! ### Comparing and counting -/

/-- Comparing in the statements' terms (42_arithmetic.md R175). -/
theorem compared_eq (o : Operand) (r : Byte) (cycles : Nat) (s : State) :
    compared o r cycles s = { afterRead o cycles s with p := s.p.compare r (operandValue o s) } := by
  have hn : (r - operandValue o s).getLsbD 7 = decide (128 ≤ (r.toNat + 256 - (operandValue o s).toNat) % 256) := by
    have hv := (operandValue o s).isLt
    rw [bit7_eq, BitVec.toNat_sub, decide_eq_decide]
    omega
  simp only [compared, Status.compare, hn, ← BitVec.toNat_inj]

theorem succByte_eq (v : Byte) : succByte v = v + 1 := by
  rw [succByte, BitVec.ofNat_add, BitVec.ofNat_toNat, BitVec.setWidth_eq]
  rfl

theorem predByte_eq (v : Byte) : predByte v = v - 1 := by
  rw [predByte, BitVec.ofNat_add, BitVec.ofNat_toNat, BitVec.setWidth_eq, BitVec.sub_eq_add_neg]
  rfl

/-! ### The instruction shapes -/

theorem readForm_adc (o : Operand) (base : Nat) (cls : PenaltyClass) (s : State) :
    readForm o base cls adc s =
      .next (accumulates o (adcSpec s.a (operandValue o s) s.p) (base + penaltyCycles cls o s) s) := by
  rw [readForm_penaltyCycles, ← addWithCarry_eq_adcSpec]
  rfl

theorem readForm_sbc (o : Operand) (base : Nat) (cls : PenaltyClass) (s : State) :
    readForm o base cls sbc s =
      .next (accumulates o (sbcSpec s.a (operandValue o s) s.p) (base + penaltyCycles cls o s) s) := by
  rw [readForm_penaltyCycles, ← subtractWithCarry_eq_sbcSpec]
  rfl

theorem readForm_compareA (o : Operand) (base : Nat) (cls : PenaltyClass) (s : State) :
    readForm o base cls compareA s = .next (compared o s.a (base + penaltyCycles cls o s) s) := by
  rw [readForm_penaltyCycles, compared_eq]
  rfl

theorem readForm_compareX (o : Operand) (base : Nat) (cls : PenaltyClass) (s : State) :
    readForm o base cls compareX s = .next (compared o s.x (base + penaltyCycles cls o s) s) := by
  rw [readForm_penaltyCycles, compared_eq]
  rfl

theorem readForm_compareY (o : Operand) (base : Nat) (cls : PenaltyClass) (s : State) :
    readForm o base cls compareY s = .next (compared o s.y (base + penaltyCycles cls o s) s) := by
  rw [readForm_penaltyCycles, compared_eq]
  rfl

/-- A read-modify-write instruction, whole, in the statements' terms. -/
theorem modifyForm_afterModify (o : Operand) (base : Nat) (cls : PenaltyClass) (f : Byte → Status → Byte × Status)
    (s : State) :
    modifyForm o base cls f s =
      .next { afterModify o (f (atEA o s) s.p).1 (base + penaltyCycles cls o s) s with p := (f (atEA o s) s.p).2 } := by
  rw [modifyForm_eq, pagePenalty_eq, memWrite, record_record, List.append_assoc]
  rfl

theorem modifyForm_increment (o : Operand) (base : Nat) (cls : PenaltyClass) (s : State) :
    modifyForm o base cls increment s =
      .next { afterModify o (succByte (atEA o s)) (base + penaltyCycles cls o s) s with
        p := nz (succByte (atEA o s)) s.p } := by
  rw [modifyForm_afterModify, nz_eq_setNZ, succByte_eq]
  rfl

theorem modifyForm_decrement (o : Operand) (base : Nat) (cls : PenaltyClass) (s : State) :
    modifyForm o base cls decrement s =
      .next { afterModify o (predByte (atEA o s)) (base + penaltyCycles cls o s) s with
        p := nz (predByte (atEA o s)) s.p } := by
  rw [modifyForm_afterModify, nz_eq_setNZ, predByte_eq]
  rfl

end Sys2Proof.Machine
/-- Settles O3: each row is a reading form of ADC, with the operand, base count and class of the table. -/
theorem Sys2Proof.Proofs.adcCompletes : Obligations.AdcCompletes := fun s v z a =>
  ⟨⟨rfl, rfl, readForm_adc (.immediate v) 2 .never s⟩,
    ⟨rfl, rfl, readForm_adc (.zeroPage z) 3 .never s⟩,
    ⟨rfl, rfl, readForm_adc (.zeroPageX z) 4 .never s⟩,
    ⟨rfl, rfl, readForm_adc (.absolute a) 4 .never s⟩,
    ⟨rfl, rfl, readForm_adc (.absoluteX a) 4 .read s⟩,
    ⟨rfl, rfl, readForm_adc (.absoluteY a) 4 .read s⟩,
    ⟨rfl, rfl, readForm_adc (.indexedIndirectX z) 6 .never s⟩,
    ⟨rfl, rfl, readForm_adc (.indirectIndexedY z) 5 .read s⟩⟩

/-- Settles O4: each row is a reading form of SBC, with the operand, base count and class of the table. -/
theorem Sys2Proof.Proofs.sbcCompletes : Obligations.SbcCompletes := fun s v z a =>
  ⟨⟨rfl, rfl, readForm_sbc (.immediate v) 2 .never s⟩,
    ⟨rfl, rfl, readForm_sbc (.zeroPage z) 3 .never s⟩,
    ⟨rfl, rfl, readForm_sbc (.zeroPageX z) 4 .never s⟩,
    ⟨rfl, rfl, readForm_sbc (.absolute a) 4 .never s⟩,
    ⟨rfl, rfl, readForm_sbc (.absoluteX a) 4 .read s⟩,
    ⟨rfl, rfl, readForm_sbc (.absoluteY a) 4 .read s⟩,
    ⟨rfl, rfl, readForm_sbc (.indexedIndirectX z) 6 .never s⟩,
    ⟨rfl, rfl, readForm_sbc (.indirectIndexedY z) 5 .read s⟩⟩

/-- Settles O5: both digits of the sum of BCD bytes are corrected to decimal ones. -/
theorem Sys2Proof.Proofs.decimalAdcAddsBcd : Obligations.DecimalAdcAddsBcd := by
  intro s m n hm hn hd ha
  obtain ⟨hsum, hcarry⟩ := adcSpec_bcd hm hn hd
  rw [← ha] at hsum hcarry
  exact ⟨_, readForm_adc (.immediate (bcd n)) 2 .never s, hsum, hcarry⟩

/-- Settles O6: both digits of the difference of BCD bytes are corrected to decimal ones. -/
theorem Sys2Proof.Proofs.decimalSbcSubtractsBcd : Obligations.DecimalSbcSubtractsBcd := by
  intro s m n hm hn hd ha
  obtain ⟨hdiff, hcarry⟩ := sbcSpec_bcd hm hn hd
  rw [← ha] at hdiff hcarry
  exact ⟨_, readForm_sbc (.immediate (bcd n)) 2 .never s, hdiff, hcarry⟩

/-- Settles O7: each row is a comparing form of its register, with the operand, base count and class of the table. -/
theorem Sys2Proof.Proofs.compareInstructionsComplete : Obligations.CompareInstructionsComplete := fun s v z a =>
  ⟨⟨rfl, rfl, readForm_compareA (.immediate v) 2 .never s⟩,
    ⟨rfl, rfl, readForm_compareA (.zeroPage z) 3 .never s⟩,
    ⟨rfl, rfl, readForm_compareA (.zeroPageX z) 4 .never s⟩,
    ⟨rfl, rfl, readForm_compareA (.absolute a) 4 .never s⟩,
    ⟨rfl, rfl, readForm_compareA (.absoluteX a) 4 .read s⟩,
    ⟨rfl, rfl, readForm_compareA (.absoluteY a) 4 .read s⟩,
    ⟨rfl, rfl, readForm_compareA (.indexedIndirectX z) 6 .never s⟩,
    ⟨rfl, rfl, readForm_compareA (.indirectIndexedY z) 5 .read s⟩,
    ⟨rfl, rfl, readForm_compareX (.immediate v) 2 .never s⟩,
    ⟨rfl, rfl, readForm_compareX (.zeroPage z) 3 .never s⟩,
    ⟨rfl, rfl, readForm_compareX (.absolute a) 4 .never s⟩,
    ⟨rfl, rfl, readForm_compareY (.immediate v) 2 .never s⟩,
    ⟨rfl, rfl, readForm_compareY (.zeroPage z) 3 .never s⟩,
    ⟨rfl, rfl, readForm_compareY (.absolute a) 4 .never s⟩⟩

/-- Settles O8: each row is a counting form on memory, with the operand, base count and class of the table. -/
theorem Sys2Proof.Proofs.memoryIncrementsComplete : Obligations.MemoryIncrementsComplete := fun s z a =>
  ⟨⟨rfl, rfl, modifyForm_increment (.zeroPage z) 5 .never s⟩,
    ⟨rfl, rfl, modifyForm_increment (.zeroPageX z) 6 .never s⟩,
    ⟨rfl, rfl, modifyForm_increment (.absolute a) 6 .never s⟩,
    ⟨rfl, rfl, modifyForm_increment (.absoluteX a) 7 .storeRmw s⟩,
    ⟨rfl, rfl, modifyForm_decrement (.zeroPage z) 5 .never s⟩,
    ⟨rfl, rfl, modifyForm_decrement (.zeroPageX z) 6 .never s⟩,
    ⟨rfl, rfl, modifyForm_decrement (.absolute a) 6 .never s⟩,
    ⟨rfl, rfl, modifyForm_decrement (.absoluteX a) 7 .storeRmw s⟩⟩

/-- Settles O9: in the model's operations each clause is the definition of its instruction. -/
theorem Sys2Proof.Proofs.indexIncrementsComplete : Obligations.IndexIncrementsComplete := by
  intro s
  simp only [nz_eq_setNZ, succByte_eq, predByte_eq, after, List.append_nil]
  exact ⟨⟨rfl, rfl, rfl⟩, ⟨rfl, rfl, rfl⟩, ⟨rfl, rfl, rfl⟩, ⟨rfl, rfl, rfl⟩⟩
end

-- The logical instructions
section
/-! PROOFS. The bitwise operations on A and BIT in the statements' terms (43_logical.md R200 to R203), for every operand,
base count and penalty class. -/

open Sys2Proof.Claims Sys2Proof.Machine

namespace Sys2Proof.Machine

/-- `A <- op(A, M); SetNZ(A)`: what AND, ORA and EOR have in common (43_logical.md R200 to R202). -/
def combineA (op : Byte → Byte → Byte) (m : Byte) (s : State) : State := setNZ (op s.a m) { s with a := op s.a m }

theorem readForm_combineA (op : Byte → Byte → Byte) (o : Operand) (base : Nat) (cls : PenaltyClass) (s : State) :
    readForm o base cls (combineA op) s =
      .next (setsA o (op s.a (operandValue o s)) (base + penaltyCycles cls o s) s) := by
  rw [readForm_penaltyCycles, setsA, nz_eq_setNZ]
  rfl

theorem readForm_andA (o : Operand) (base : Nat) (cls : PenaltyClass) (s : State) :
    readForm o base cls andA s = .next (setsA o (s.a &&& operandValue o s) (base + penaltyCycles cls o s) s) :=
  readForm_combineA (· &&& ·) o base cls s

theorem readForm_oraA (o : Operand) (base : Nat) (cls : PenaltyClass) (s : State) :
    readForm o base cls oraA s = .next (setsA o (s.a ||| operandValue o s) (base + penaltyCycles cls o s) s) :=
  readForm_combineA (· ||| ·) o base cls s

theorem readForm_eorA (o : Operand) (base : Nat) (cls : PenaltyClass) (s : State) :
    readForm o base cls eorA s = .next (setsA o (s.a ^^^ operandValue o s) (base + penaltyCycles cls o s) s) :=
  readForm_combineA (· ^^^ ·) o base cls s

/-- Bit 6 of a byte as arithmetic (43_logical.md R203). -/
theorem bit6_eq (v : Byte) : v.getLsbD 6 = decide (64 ≤ v.toNat % 128) := by
  rw [bit_eq, decide_eq_decide]
  omega

/-- BIT's flags in the statements' arithmetic (43_logical.md R203): N and V look at M alone. -/
theorem bitTested_eq (o : Operand) (cycles : Nat) (s : State) :
    bitTested o cycles s = { afterRead o cycles s with p := s.p.bitTest s.a (operandValue o s) } := by
  have hz : (s.a &&& operandValue o s).toNat = 0 ↔ s.a &&& operandValue o s = 0 := BitVec.toNat_inj (y := 0)
  simp only [bitTested, Status.bitTest, bit7_eq, bit6_eq, hz]

theorem readForm_bitA (o : Operand) (base : Nat) (cls : PenaltyClass) (s : State) :
    readForm o base cls bitA s = .next (bitTested o (base + penaltyCycles cls o s) s) := by
  rw [readForm_penaltyCycles, bitTested_eq]
  rfl

end Sys2Proof.Machine

/-- Settles O10: each row is a reading form of its bitwise operation, with the operand, base count and class of the
table. -/
theorem Sys2Proof.Proofs.logicalInstructionsComplete : Obligations.LogicalInstructionsComplete := fun s v z a =>
  ⟨⟨rfl, rfl, readForm_andA (.immediate v) 2 .never s⟩,
    ⟨rfl, rfl, readForm_andA (.zeroPage z) 3 .never s⟩,
    ⟨rfl, rfl, readForm_andA (.zeroPageX z) 4 .never s⟩,
    ⟨rfl, rfl, readForm_andA (.absolute a) 4 .never s⟩,
    ⟨rfl, rfl, readForm_andA (.absoluteX a) 4 .read s⟩,
    ⟨rfl, rfl, readForm_andA (.absoluteY a) 4 .read s⟩,
    ⟨rfl, rfl, readForm_andA (.indexedIndirectX z) 6 .never s⟩,
    ⟨rfl, rfl, readForm_andA (.indirectIndexedY z) 5 .read s⟩,
    ⟨rfl, rfl, readForm_oraA (.immediate v) 2 .never s⟩,
    ⟨rfl, rfl, readForm_oraA (.zeroPage z) 3 .never s⟩,
    ⟨rfl, rfl, readForm_oraA (.zeroPageX z) 4 .never s⟩,
    ⟨rfl, rfl, readForm_oraA (.absolute a) 4 .never s⟩,
    ⟨rfl, rfl, readForm_oraA (.absoluteX a) 4 .read s⟩,
    ⟨rfl, rfl, readForm_oraA (.absoluteY a) 4 .read s⟩,
    ⟨rfl, rfl, readForm_oraA (.indexedIndirectX z) 6 .never s⟩,
    ⟨rfl, rfl, readForm_oraA (.indirectIndexedY z) 5 .read s⟩,
    ⟨rfl, rfl, readForm_eorA (.immediate v) 2 .never s⟩,
    ⟨rfl, rfl, readForm_eorA (.zeroPage z) 3 .never s⟩,
    ⟨rfl, rfl, readForm_eorA (.zeroPageX z) 4 .never s⟩,
    ⟨rfl, rfl, readForm_eorA (.absolute a) 4 .never s⟩,
    ⟨rfl, rfl, readForm_eorA (.absoluteX a) 4 .read s⟩,
    ⟨rfl, rfl, readForm_eorA (.absoluteY a) 4 .read s⟩,
    ⟨rfl, rfl, readForm_eorA (.indexedIndirectX z) 6 .never s⟩,
    ⟨rfl, rfl, readForm_eorA (.indirectIndexedY z) 5 .read s⟩⟩

/-- Settles O11: both rows are the reading form of BIT, with the operand, base count and class of the table. -/
theorem Sys2Proof.Proofs.bitCompletes : Obligations.BitCompletes := fun s z a =>
  ⟨⟨rfl, rfl, readForm_bitA (.zeroPage z) 3 .never s⟩,
    ⟨rfl, rfl, readForm_bitA (.absolute a) 4 .never s⟩⟩
end

-- The shifts and rotates
section
/-! PROOFS. Shifts and rotates as doubling and halving (44_shift_rotate.md R210 to R214), for every operand, base count
and penalty class. A shift is the rotate of its direction with carry in 0. -/

open Sys2Proof.Claims Sys2Proof.Machine

namespace Sys2Proof.Machine

/-! ### Doubling and halving -/

/-- The carry in lands in bit 0, which doubling left 0 (44_shift_rotate.md R213). -/
theorem shiftLeft_or_carry (c : Bool) (v : Byte) :
    v <<< 1 ||| BitVec.ofNat 8 c.toNat = BitVec.ofNat 8 (2 * v.toNat + c.toNat) := by
  have hc := c.toNat_lt
  have hdouble : (v <<< 1).toNat = 2 ^ 1 * (v.toNat % 128) := by
    rw [BitVec.toNat_shiftLeft, Nat.shiftLeft_eq]
    omega
  have hcarry : (BitVec.ofNat 8 c.toNat).toNat = c.toNat := Nat.mod_eq_of_lt (by omega)
  rw [← BitVec.toNat_inj, BitVec.toNat_or, hdouble, hcarry, ← Nat.two_pow_add_eq_or_of_lt hc, BitVec.toNat_ofNat]
  omega

/-- The carry in lands in bit 7, which halving left 0 (44_shift_rotate.md R214). -/
theorem shiftRight_or_carry (c : Bool) (v : Byte) :
    v >>> 1 ||| BitVec.ofNat 8 (c.toNat * 128) = BitVec.ofNat 8 (v.toNat / 2 + 128 * c.toNat) := by
  have hc := c.toNat_lt
  have hv := v.isLt
  have hhalf : (v >>> 1).toNat = v.toNat / 2 := by rw [BitVec.toNat_ushiftRight, Nat.shiftRight_eq_div_pow, Nat.pow_one]
  have hcarry : (BitVec.ofNat 8 (c.toNat * 128)).toNat = 2 ^ 7 * c.toNat := by
    rw [BitVec.toNat_ofNat]
    omega
  have hlow : v.toNat / 2 < 2 ^ 7 := by omega
  rw [← BitVec.toNat_inj, BitVec.toNat_or, hhalf, hcarry, Nat.or_comm, ← Nat.two_pow_add_eq_or_of_lt hlow,
    BitVec.toNat_ofNat]
  omega

theorem rotateLeft_eq_rolSpec (c : Bool) (v : Byte) : rotateLeft c v = rolSpec c v := by
  rw [rotateLeft, rolSpec, shiftLeft_or_carry, bit7_eq]

theorem rotateRight_eq_rorSpec (c : Bool) (v : Byte) : rotateRight c v = rorSpec c v := by
  rw [rotateRight, rorSpec, shiftRight_or_carry, bit_eq, Nat.pow_zero, Nat.div_one]

theorem shiftLeft_eq_aslSpec (v : Byte) : shiftLeft v = aslSpec v :=
  calc shiftLeft v = rotateLeft false v := by rw [rotateLeft, Bool.toNat_false, BitVec.or_zero, shiftLeft]
    _ = rolSpec false v := rotateLeft_eq_rolSpec false v
    _ = aslSpec v := rfl

theorem shiftRight_eq_lsrSpec (v : Byte) : shiftRight v = lsrSpec v :=
  calc shiftRight v = rotateRight false v := by
        rw [rotateRight, Bool.toNat_false, Nat.zero_mul, BitVec.or_zero, shiftRight]
    _ = rorSpec false v := rotateRight_eq_rorSpec false v
    _ = lsrSpec v := rfl

/-! ### The instruction shapes -/

/-- The byte and the status that a shift with result and carry out `f` leaves (44_shift_rotate.md R210). -/
def shiftBy (f : Bool → Byte → Byte × Bool) (v : Byte) (p : Status) : Byte × Status :=
  ((f p.c v).1, nz (f p.c v).1 { p with c := (f p.c v).2 })

theorem asl_eq_shiftBy : asl = shiftBy fun _ => aslSpec := by
  funext v p
  rw [asl, shiftBy, nz_eq_setNZ, Status.setShift, shiftLeft_eq_aslSpec]

theorem lsr_eq_shiftBy : lsr = shiftBy fun _ => lsrSpec := by
  funext v p
  rw [lsr, shiftBy, nz_eq_setNZ, Status.setShift, shiftRight_eq_lsrSpec]

theorem rol_eq_shiftBy : rol = shiftBy rolSpec := by
  funext v p
  rw [rol, shiftBy, nz_eq_setNZ, Status.setShift, rotateLeft_eq_rolSpec]

theorem ror_eq_shiftBy : ror = shiftBy rorSpec := by
  funext v p
  rw [ror, shiftBy, nz_eq_setNZ, Status.setShift, rotateRight_eq_rorSpec]

theorem accumulatorForm_shift {f : Byte → Status → Byte × Status} {spec : Bool → Byte → Byte × Bool}
    (hf : f = shiftBy spec) (s : State) : accumulatorForm f s = .next (shiftsA (spec s.p.c s.a) s) := by
  rw [hf, accumulatorForm_eq, shiftsA, after, List.append_nil]
  rfl

theorem modifyForm_shift {f : Byte → Status → Byte × Status} {spec : Bool → Byte → Byte × Bool}
    (hf : f = shiftBy spec) (o : Operand) (base : Nat) (cls : PenaltyClass) (s : State) :
    modifyForm o base cls f s =
      .next (shiftsM o (spec s.p.c (atEA o s)) (base + penaltyCycles cls o s) s) := by
  rw [hf, modifyForm_afterModify]
  rfl

end Sys2Proof.Machine

/-- Settles O12: each row is the accumulator form or a memory form of its shift, with the operand, base count and class
of the table. -/
theorem Sys2Proof.Proofs.shiftInstructionsComplete : Obligations.ShiftInstructionsComplete := fun s z a =>
  ⟨⟨rfl, rfl, accumulatorForm_shift asl_eq_shiftBy s⟩,
    ⟨rfl, rfl, modifyForm_shift asl_eq_shiftBy (.zeroPage z) 5 .never s⟩,
    ⟨rfl, rfl, modifyForm_shift asl_eq_shiftBy (.zeroPageX z) 6 .never s⟩,
    ⟨rfl, rfl, modifyForm_shift asl_eq_shiftBy (.absolute a) 6 .never s⟩,
    ⟨rfl, rfl, modifyForm_shift asl_eq_shiftBy (.absoluteX a) 7 .storeRmw s⟩,
    ⟨rfl, rfl, accumulatorForm_shift lsr_eq_shiftBy s⟩,
    ⟨rfl, rfl, modifyForm_shift lsr_eq_shiftBy (.zeroPage z) 5 .never s⟩,
    ⟨rfl, rfl, modifyForm_shift lsr_eq_shiftBy (.zeroPageX z) 6 .never s⟩,
    ⟨rfl, rfl, modifyForm_shift lsr_eq_shiftBy (.absolute a) 6 .never s⟩,
    ⟨rfl, rfl, modifyForm_shift lsr_eq_shiftBy (.absoluteX a) 7 .storeRmw s⟩,
    ⟨rfl, rfl, accumulatorForm_shift rol_eq_shiftBy s⟩,
    ⟨rfl, rfl, modifyForm_shift rol_eq_shiftBy (.zeroPage z) 5 .never s⟩,
    ⟨rfl, rfl, modifyForm_shift rol_eq_shiftBy (.zeroPageX z) 6 .never s⟩,
    ⟨rfl, rfl, modifyForm_shift rol_eq_shiftBy (.absolute a) 6 .never s⟩,
    ⟨rfl, rfl, modifyForm_shift rol_eq_shiftBy (.absoluteX a) 7 .storeRmw s⟩,
    ⟨rfl, rfl, accumulatorForm_shift ror_eq_shiftBy s⟩,
    ⟨rfl, rfl, modifyForm_shift ror_eq_shiftBy (.zeroPage z) 5 .never s⟩,
    ⟨rfl, rfl, modifyForm_shift ror_eq_shiftBy (.zeroPageX z) 6 .never s⟩,
    ⟨rfl, rfl, modifyForm_shift ror_eq_shiftBy (.absolute a) 6 .never s⟩,
    ⟨rfl, rfl, modifyForm_shift ror_eq_shiftBy (.absoluteX a) 7 .storeRmw s⟩⟩
end

-- Control transfer and the stack linkage
section
/-! PROOFS. Branches, jumps, calls and returns in the statements' terms (45_control_transfer.md R220 to R233), and what
a return finds on the stack after a call or the entry of an exception (20_memory.md R78, R79). -/

open Sys2Proof.Claims Sys2Proof.Machine

namespace Sys2Proof.Machine

/-! ### Branches and jumps -/

/-- The page of an address is its high byte with low byte 0 (00_scope.md R9). -/
theorem page_eq_joinBytes (w : Word) : page w = joinBytes (highByte w) 0 :=
  calc page w = joinBytes (highByte w) (lowByte w) &&& joinBytes 0xFF 0x00 := by rw [joinBytes_high_low]; rfl
    _ = joinBytes (highByte w &&& 0xFF) (lowByte w &&& 0x00) := BitVec.and_append
    _ = joinBytes (highByte w) 0 := congrArg₂ joinBytes BitVec.and_allOnes BitVec.and_zero

theorem page_eq_iff (v w : Word) : page v = page w ↔ v.toNat / 256 = w.toNat / 256 := by
  rw [← highByte_toNat, ← highByte_toNat, BitVec.toNat_inj, page_eq_joinBytes, page_eq_joinBytes]
  exact ⟨fun h => by simpa using congrArg highByte h, fun h => by rw [h]⟩

/-- A branch, whole, in the statements' terms (45_control_transfer.md R220). -/
theorem branchForm_branched (o : Byte) (cond : Bool) (s : State) :
    branchForm o cond s = .next (branched o cond s) := by
  simp only [branchForm_eq, branched, branchTarget_eq, ← page_eq_iff]
  cases cond with
  | false => simp [after, charge]
  | true => by_cases hp : page (s.pc + signExtend o) = page s.pc <;> simp [hp, after, charge]

/-- A jump, whole, in the statements' terms (45_control_transfer.md R229). -/
theorem jumpForm_after (o : Operand) (base : Nat) (s : State) :
    jumpForm o base (fun ea s => { s with pc := ea }) s =
      .next { after s (pointerReads o s) base with pc := effectiveAddress o s } := rfl

/-! ### Pushes and pulls in the statements' terms -/

theorem hiByte_eq (w : Word) : hiByte w = highByte w := by
  rw [hiByte, ← highByte_toNat, BitVec.ofNat_toNat, BitVec.setWidth_eq]

theorem loByte_eq (w : Word) : loByte w = lowByte w := by
  rw [← BitVec.toNat_inj, lowByte_toNat, loByte, BitVec.toNat_ofNat]

/-- The statements' push is the model's (20_memory.md R78). -/
theorem pushAll_cons (v : Byte) (l : List Byte) (s : State) : pushAll (v :: l) s = pushAll l (push v s) := by
  have hsp : BitVec.ofNat 8 (s.sp.toNat + 255) = s.sp - 1 := predByte_eq s.sp
  rw [pushAll, stackByte_eq, ← stackAddress_toNat, hsp]
  rfl

theorem pushAll_word (w : Word) (s : State) : pushAll [hiByte w, loByte w] s = push16 w s := by
  rw [pushAll_cons, pushAll_cons, hiByte_eq, loByte_eq]
  rfl

theorem after_nil (s : State) (cycles : Nat) : after s [] cycles = charge cycles s := by
  rw [after, List.append_nil]
  rfl

theorem push_charge (v : Byte) (cycles : Nat) (s : State) :
    push v (charge cycles s) = charge cycles (push v s) := rfl

theorem push16_charge (w : Word) (cycles : Nat) (s : State) :
    push16 w (charge cycles s) = charge cycles (push16 w s) := by
  simp only [push16, push_charge]

theorem pulled_eq (k : Nat) (s : State) : pulled k s = s.byteAt (stackAddress (s.sp + BitVec.ofNat 8 k)) := by
  rw [pulled, stackByte_eq]

/-! ### What the stack holds after a push -/

@[simp] theorem byteAt_push_same (v : Byte) (s : State) : (push v s).byteAt (stackAddress s.sp) = v := by
  rw [byteAt_push, if_pos rfl]

/-- A push keeps the byte of every other stack slot (20_memory.md R77, R78). -/
theorem byteAt_push_slot {sp : Byte} (v : Byte) {s : State} (h : sp ≠ s.sp) :
    (push v s).byteAt (stackAddress sp) = s.byteAt (stackAddress sp) := by
  rw [byteAt_push, if_neg (mt stackAddress_inj.mp h)]

theorem push16_sp (w : Word) (s : State) : (push16 w s).sp = s.sp - 2 := by
  rw [push16, push_sp, push_sp]
  bv_omega

theorem byteAt_push16_low (w : Word) (s : State) : (push16 w s).byteAt (stackAddress (s.sp - 1)) = lowByte w :=
  byteAt_push_same (lowByte w) (push (highByte w) s)

theorem byteAt_push16_high (w : Word) (s : State) : (push16 w s).byteAt (stackAddress s.sp) = highByte w := by
  rw [push16, byteAt_push_slot (lowByte w) (by rw [push_sp]; bv_omega), byteAt_push_same]

/-! ### The stack instructions -/

theorem pull_charge (cycles : Nat) (s : State) :
    pull (charge cycles s) = ((pull s).1, charge cycles (pull s).2) := rfl

theorem exec_pha (s : State) : exec .pha s = .next (charge 3 (push s.a s)) := rfl

theorem exec_php (s : State) : exec .php s = .next (charge 3 (push (s.p.pushed true) s)) := rfl

theorem exec_pla (s : State) :
    exec .pla s = .next (charge 4 (setNZ (pull s).1 { (pull s).2 with a := (pull s).1 })) := rfl

theorem exec_plp (s : State) :
    exec .plp s = .next (charge 4 { (pull s).2 with p := Status.load (pull s).1 }) := rfl

/-! ### The returns -/

/-- RTS on the stack that the push of an address left, whole (45_control_transfer.md R231): PC is that address plus 1
and SP is as before the push. -/
theorem exec_rts_push16 (w : Word) (s : State) {t : State} (hsp : t.sp = (push16 w s).sp)
    (hmem : ∀ a, t.byteAt a = (push16 w s).byteAt a) :
    exec .rts t = .next (charge 6
      { t with
        pc := w + 1
        sp := s.sp
        bus := t.bus ++ [.read (stackAddress (s.sp - 1)), .read (stackAddress s.sp)] }) := by
  have hsp1 : s.sp - 2 + 1 = s.sp - 1 := by bv_omega
  have hsp2 : s.sp - 2 + 2 = s.sp := BitVec.sub_add_cancel ..
  simp only [exec_rts, hsp, hmem, push16_sp, hsp1, hsp2, byteAt_push16_high, byteAt_push16_low, joinBytes_high_low]

theorem takeException_sp (ret : Word) (b : Bool) (vector : Word) (s : State) :
    (takeException ret b vector s).sp = s.sp - 3 := by
  rw [takeException_eq, push_sp, push16_sp]
  bv_omega

/-- The three stack slots after the entry of an exception: PC high, PC low, P (60_exceptions.md R318). -/
theorem takeException_pushes (ret : Word) (b : Bool) (vector : Word) (s : State) :
    (takeException ret b vector s).byteAt (stackAddress s.sp) = highByte ret ∧
      (takeException ret b vector s).byteAt (stackAddress (s.sp - 1)) = lowByte ret ∧
      (takeException ret b vector s).byteAt (stackAddress (s.sp - 2)) = s.p.pushed b := by
  have hmem : ∀ a, (takeException ret b vector s).byteAt a = (push (s.p.pushed b) (push16 ret s)).byteAt a :=
    fun _ => by rw [takeException_eq]; rfl
  have hsp := push16_sp ret s
  refine ⟨?_, ?_, ?_⟩ <;> rw [hmem]
  · rw [byteAt_push_slot _ (by rw [hsp]; bv_omega), byteAt_push16_high]
  · rw [byteAt_push_slot _ (by rw [hsp]; bv_omega), byteAt_push16_low]
  · rw [← hsp, byteAt_push_same]

/-- RTI on the stack that the entry of an exception left, whole (60_exceptions.md R321): PC is the return address, SP is
as before the entry, and so is every flag but Break, which is clear. -/
theorem exec_rti_takeException (ret : Word) (b : Bool) (vector : Word) (s : State) {t : State}
    (hsp : t.sp = (takeException ret b vector s).sp)
    (hmem : ∀ a, t.byteAt a = (takeException ret b vector s).byteAt a) :
    exec .rti t = .next (charge 6
      { t with
        p := { s.p with b := false }
        pc := ret
        sp := s.sp
        bus := t.bus ++ [.read (stackAddress (s.sp - 2)), .read (stackAddress (s.sp - 1)),
          .read (stackAddress s.sp)] }) := by
  obtain ⟨hhigh, hlow, hp⟩ := takeException_pushes ret b vector s
  have hsp1 : s.sp - 3 + 1 = s.sp - 2 := by bv_omega
  have hsp2 : s.sp - 3 + 2 = s.sp - 1 := by bv_omega
  have hsp3 : s.sp - 3 + 3 = s.sp := BitVec.sub_add_cancel ..
  simp only [exec_rti, hsp, hmem, takeException_sp, hsp1, hsp2, hsp3, hhigh, hlow, hp, joinBytes_high_low, load_pushed]

end Sys2Proof.Machine

/-- Settles O13: each row is the branch on its flag. -/
theorem Sys2Proof.Proofs.branchInstructionsComplete : Obligations.BranchInstructionsComplete := fun s o =>
  ⟨⟨rfl, rfl, branchForm_branched o (!s.p.n) s⟩,
    ⟨rfl, rfl, branchForm_branched o s.p.n s⟩,
    ⟨rfl, rfl, branchForm_branched o (!s.p.v) s⟩,
    ⟨rfl, rfl, branchForm_branched o s.p.v s⟩,
    ⟨rfl, rfl, branchForm_branched o (!s.p.c) s⟩,
    ⟨rfl, rfl, branchForm_branched o s.p.c s⟩,
    ⟨rfl, rfl, branchForm_branched o (!s.p.z) s⟩,
    ⟨rfl, rfl, branchForm_branched o s.p.z s⟩⟩

/-- Settles O14: both rows are a jump to the effective address of their operand. -/
theorem Sys2Proof.Proofs.jumpInstructionsComplete : Obligations.JumpInstructionsComplete := by
  intro s a p
  rw [pointerHigh_eq, wordOf_eq_joinBytes]
  exact ⟨⟨rfl, rfl, jumpForm_after (.absolute a) 3 s⟩, ⟨rfl, rfl, jumpForm_after (.indirect p) 5 s⟩⟩

/-- Settles O15: the statement's pushes and pulls are the model's. -/
theorem Sys2Proof.Proofs.callAndReturnComplete : Obligations.CallAndReturnComplete := by
  intro s a
  rw [pushAll_word, after_nil, push16_charge, wordOf_eq_joinBytes, pulled_eq, pulled_eq]
  refine ⟨⟨rfl, rfl, exec_jsr a s⟩, ⟨rfl, rfl, (exec_rts s).trans ?_⟩⟩
  simp only [afterPulls, stackByte_eq]
  rfl

/-- Settles O45: each pull gives back the byte its push left in the same stack slot. -/
theorem Sys2Proof.Proofs.stackRoundTrips : Obligations.StackRoundTrips := by
  intro s a hb
  have hp : ({ s.p with b := false } : Status) = s.p := by rw [← hb]
  refine ⟨⟨_, _, exec_jsr a s, exec_rts_push16 (s.pc - 1) s (by simp) (by simp [State.byteAt]), ?_⟩,
    ⟨_, _, exec_brk s, exec_rti_takeException (s.pc + 1) true irqVector s (by simp) (by simp [State.byteAt]), ?_⟩,
    ⟨_, _, exec_pha s, exec_pla _, ?_⟩, ⟨_, _, exec_php s, exec_plp _, ?_⟩⟩
  · simp
  · simp [hp]
  · simp [pull_charge]
  · simp [pull_charge, load_pushed, hp]
end

-- The stack instructions and the register transfers
section
/-! PROOFS. The stack instructions and the register transfers in the statements' terms (46_stack_transfer.md R240 to
R249). -/

open Sys2Proof.Claims Sys2Proof.Machine

namespace Sys2Proof.Machine

/-- The arithmetic reading of a pushed status byte is `PushedP` (10_state.md R47). -/
theorem statusByte_eq_pushed (p : Status) (b : Bool) : statusByte p b = p.pushed b := rfl

theorem pushAll_singleton (v : Byte) (s : State) : pushAll [v] s = push v s := pushAll_cons v [] s

/-- The byte of the statements' first pull is the model's (20_memory.md R79). -/
theorem pulled_one (s : State) : pulled 1 s = (pull s).1 := pulled_eq 1 s

/-- The state after the statements' one pull is the model's (20_memory.md R79). -/
theorem afterPulls_one (cycles : Nat) (s : State) : afterPulls 1 cycles s = charge cycles (pull s).2 := by
  rw [afterPulls, List.range_one, List.map_singleton, stackByte_eq]
  rfl

end Sys2Proof.Machine

/-- Settles O16: the statement's push, pull and status byte are the model's. -/
theorem Sys2Proof.Proofs.stackInstructionsComplete : Obligations.StackInstructionsComplete := by
  intro s
  rw [pushAll_singleton, pushAll_singleton, after_nil, push_charge, push_charge, statusByte_eq_pushed, afterPulls_one,
    pulled_one, nz_eq_setNZ, statusOf_eq_load]
  exact ⟨⟨rfl, rfl, exec_pha s⟩, ⟨rfl, rfl, exec_php s⟩, ⟨rfl, rfl, exec_pla s⟩, ⟨rfl, rfl, exec_plp s⟩⟩

/-- Settles O17: in the model's `SetNZ` and cycle charge each clause is the definition of its transfer. -/
theorem Sys2Proof.Proofs.transferInstructionsComplete : Obligations.TransferInstructionsComplete := by
  intro s
  simp only [nz_eq_setNZ, after_nil]
  exact ⟨⟨rfl, rfl, rfl⟩, ⟨rfl, rfl, rfl⟩, ⟨rfl, rfl, rfl⟩, ⟨rfl, rfl, rfl⟩, ⟨rfl, rfl, rfl⟩, ⟨rfl, rfl, rfl⟩⟩
end

-- The flag instructions, BRK and RTI
section
/-! PROOFS. The flag instructions, BRK and RTI in the statements' terms (47_flags_system.md R260 to R269). The entry of an
exception reads its vector after the pushes, which do not reach it (20_memory.md R77, R81). -/

open Sys2Proof.Claims Sys2Proof.Machine

namespace Sys2Proof.Machine

/-! ### The entry of an exception -/

/-- The stack is below 0x0200 (20_memory.md R77). -/
theorem not_mem_exceptionSlots {a : Word} (ha : 0x0200 ≤ a.toNat) (sp : Byte) : a ∉ exceptionSlots sp := by
  have hslot : ∀ v : Byte, a ≠ stackAddress v := by
    rintro v rfl
    have := v.isLt
    rw [stackAddress_toNat] at ha
    omega
  simp [exceptionSlots, hslot]

theorem byteAt_takeException (ret : Word) (b : Bool) (vector : Word) (s : State) {a : Word} (ha : 0x0200 ≤ a.toNat) :
    (takeException ret b vector s).byteAt a = s.byteAt a :=
  (writesOnlyAt_takeException ret b vector s).byteAt_eq (not_mem_exceptionSlots ha s.sp)

/-- PC after the entry, from a vector outside the stack, is the vector's word before it (20_memory.md R81). -/
theorem takeException_pc (ret : Word) (b : Bool) {vector : Word} (s : State) (hlow : 0x0200 ≤ vector.toNat)
    (hhigh : 0x0200 ≤ (vector + 1).toNat) :
    (takeException ret b vector s).pc = wordOf (s.byteAt (vector + 1)) (s.byteAt vector) := by
  rw [← byteAt_takeException ret b vector s hlow, ← byteAt_takeException ret b vector s hhigh, wordOf_eq_joinBytes,
    takeException_eq]
  rfl

theorem pushAll_exception (ret : Word) (b : Bool) (s : State) :
    pushAll [hiByte ret, loByte ret, statusByte s.p b] s = push (s.p.pushed b) (push16 ret s) := by
  rw [pushAll_cons, pushAll_cons, pushAll_singleton, hiByte_eq, loByte_eq, statusByte_eq_pushed]
  rfl

/-- The entry, whole, in the statements' terms (47_flags_system.md R268; 60_exceptions.md R318). -/
theorem charge_takeException (ret : Word) (b : Bool) {vector : Word} (s : State) (hlow : 0x0200 ≤ vector.toNat)
    (hhigh : 0x0200 ≤ (vector + 1).toNat) :
    charge 7 (takeException ret b vector s) = entered ret b vector s := by
  rw [entered, pushAll_exception, ← takeException_pc ret b s hlow hhigh, takeException_eq]
  rfl

end Sys2Proof.Machine

/-- Settles O19: BRK is the entry of an exception through a vector outside the stack. -/
theorem Sys2Proof.Proofs.brkCompletes : Obligations.BrkCompletes := by
  intro s
  have hentry := charge_takeException (s.pc + 1) true (vector := irqVector) s (by decide) (by decide)
  exact ⟨rfl, rfl, (exec_brk s).trans (congrArg _ hentry)⟩

/-- Settles O20: the statement's pulls and status byte are the model's. -/
theorem Sys2Proof.Proofs.rtiCompletes : Obligations.RtiCompletes := by
  intro s
  rw [statusOf_eq_load, wordOf_eq_joinBytes, pulled_eq, pulled_eq, pulled_eq]
  refine ⟨rfl, rfl, (exec_rti s).trans ?_⟩
  simp only [afterPulls, stackByte_eq]
  rfl

/-- Settles O18: in the model's cycle charge each clause is the definition of its instruction. -/
theorem Sys2Proof.Proofs.flagInstructionsComplete : Obligations.FlagInstructionsComplete := by
  intro s
  rw [after_nil]
  exact ⟨⟨rfl, rfl, rfl⟩, ⟨rfl, rfl, rfl⟩, ⟨rfl, rfl, rfl⟩, ⟨rfl, rfl, rfl⟩, ⟨rfl, rfl, rfl⟩, ⟨rfl, rfl, rfl⟩,
    ⟨rfl, rfl, rfl⟩, ⟨rfl, rfl, rfl⟩⟩
end

-- The cycles
section
/-! PROOFS. The cycles of every instruction and step (48_execute_loop.md R286 to R289): an instruction adds the base
count of its row, its branch cycles and its page penalty to whatever total it finds, and nothing else reads that
total. -/

open Sys2Proof.Claims Sys2Proof.Machine

namespace Sys2Proof.Machine

/-! ### Counting without reading the total -/

/-- `h` neither reads nor changes the cycle total. -/
def CycleBlind (h : State → State) : Prop := ∀ k s, h (withCycleTotal k s) = withCycleTotal k (h s)

/-- From `s`, and from `s` with any other cycle total, `f` answers the same next state but for the total, which is
`n` cycles more than it was. -/
def CountsCycles (f : State → Answer) (s : State) (n : Nat) : Prop :=
  ∃ t, f s = .next t ∧ ∀ k, f (withCycleTotal k s) = .next (withCycleTotal (k + BitVec.ofNat 64 n) t)

theorem countsCycles_of_charge {f : State → Answer} {s : State} {n : Nat} {h : State → State} (hh : CycleBlind h)
    (hf : ∀ k, f (withCycleTotal k s) = .next (charge n (h (withCycleTotal k s)))) : CountsCycles f s n :=
  ⟨charge n (h s), hf s.cycleTotal, fun k => by rw [hf, hh]; rfl⟩

theorem CountsCycles.cycleTotal_eq {f : State → Answer} {s t : State} {n : Nat} (hf : CountsCycles f s n)
    (h : f s = .next t) : t.cycleTotal = s.cycleTotal + BitVec.ofNat 64 n := by
  obtain ⟨t', -, hk⟩ := hf
  cases (hk s.cycleTotal).symm.trans h
  rfl

/-! ### The shapes -/

theorem readForm_countsCycles (o : Operand) (base : Nat) (cls : PenaltyClass) {h : Byte → State → State}
    (hh : ∀ v, CycleBlind (h v)) (s : State) :
    CountsCycles (readForm o base cls h) s (base + penaltyCycles cls o s) := by
  rw [← pagePenalty_eq]
  exact countsCycles_of_charge (h := fun s => h (operandValue o s) (s.record (operandAccesses o s)))
    (fun k s => hh _ k (s.record _)) fun _ => readForm_eq ..

theorem storeForm_countsCycles (o : Operand) (base : Nat) (cls : PenaltyClass) {g : State → Byte}
    (hg : ∀ k s, g (withCycleTotal k s) = g s) (s : State) :
    CountsCycles (storeForm o base cls g) s (base + penaltyCycles cls o s) := by
  rw [← pagePenalty_eq]
  exact countsCycles_of_charge
    (h := fun s => memWrite (effectiveAddress o s) (g (s.record (pointerReads o s))) (s.record (pointerReads o s)))
    (fun k s => congrArg (fun v => memWrite _ v _) (hg k (s.record _))) fun _ => storeForm_eq ..

theorem modifyForm_countsCycles (o : Operand) (base : Nat) (cls : PenaltyClass) (f : Byte → Status → Byte × Status)
    (s : State) : CountsCycles (modifyForm o base cls f) s (base + penaltyCycles cls o s) := by
  rw [← pagePenalty_eq]
  exact ⟨_, modifyForm_eq .., fun _ => modifyForm_eq ..⟩

theorem jumpForm_countsCycles (o : Operand) (base : Nat) {h : Word → State → State} (hh : ∀ ea, CycleBlind (h ea))
    (s : State) : CountsCycles (jumpForm o base h) s base :=
  countsCycles_of_charge (h := fun s => h (effectiveAddress o s) (s.record (pointerReads o s)))
    (fun k s => hh _ k (s.record _)) fun _ => jumpForm_eq ..

theorem impliedForm_countsCycles (base : Nat) {h : State → State} (hh : CycleBlind h) (s : State) :
    CountsCycles (impliedForm base h) s base :=
  countsCycles_of_charge hh fun _ => rfl

theorem jsr_countsCycles (a : Word) (s : State) : CountsCycles (exec (.jsr a)) s 6 :=
  ⟨_, exec_jsr a s, fun _ => exec_jsr ..⟩

/-- The cycles of a branch beyond its base count: 1 when taken, 2 when taken to another page (45_control_transfer.md
R220). -/
def branchExtra (o : Byte) (cond : Bool) (s : State) : Nat :=
  if cond = false then 0 else if (branchTarget o s).toNat / 256 = s.pc.toNat / 256 then 1 else 2

theorem branched_eq_charge (o : Byte) (cond : Bool) (s : State) :
    branched o cond s =
      charge (2 + branchExtra o cond s) (if cond then { s with pc := branchTarget o s } else s) := by
  cases cond with
  | false => exact after_nil s 2
  | true =>
    by_cases hpage : (branchTarget o s).toNat / 256 = s.pc.toNat / 256
    · simp [branched, branchExtra, hpage, after, charge]
    · simp [branched, branchExtra, hpage, after, charge]

theorem branchForm_countsCycles (o : Byte) (cond : Bool) (s : State) :
    CountsCycles (branchForm o cond) s (2 + branchExtra o cond s) := by
  have hblind : CycleBlind fun s => if cond then { s with pc := branchTarget o s } else s := by
    intro k s
    cases cond <;> rfl
  exact countsCycles_of_charge hblind fun k =>
    (branchForm_branched ..).trans (congrArg _ (branched_eq_charge o cond (withCycleTotal k s)))

/-! ### The base count and the penalty class of each row -/

/-- The shape an instruction runs in, with the base count and the penalty class of its row (48_execute_loop.md R287,
R288): `ExecForm` with the counts in place, and with what counting needs of the handlers in place of their names. -/
inductive TimedForm (r : OpcodeRow) : Instr → Prop
  | read {i : Instr} {o : Operand} {h : Byte → State → State} (ho : i.operand = some o)
      (hextra : ∀ s, cyclesExtra i s = 0) (run : ∀ s, exec i s = readForm o r.baseCycles r.penalty h s)
      (hh : ∀ v, CycleBlind (h v)) : TimedForm r i
  | store {i : Instr} {o : Operand} {g : State → Byte} (ho : i.operand = some o) (hextra : ∀ s, cyclesExtra i s = 0)
      (run : ∀ s, exec i s = storeForm o r.baseCycles r.penalty g s) (hg : ∀ k s, g (withCycleTotal k s) = g s) :
      TimedForm r i
  | modify {i : Instr} {o : Operand} {f : Byte → Status → Byte × Status} (hf : ModifyFunction i.mnemonic f)
      (ho : i.operand = some o) (hextra : ∀ s, cyclesExtra i s = 0)
      (run : ∀ s, exec i s = modifyForm o r.baseCycles r.penalty f s) : TimedForm r i
  | branch {i : Instr} {o : Byte} (ho : i.operand = some (.relative o)) (hbase : r.baseCycles = 2)
      (hpenalty : r.penalty = .never) (run : ∀ s, exec i s = branchForm o (branchCondition i.mnemonic s.p) s) :
      TimedForm r i
  | jump {i : Instr} {o : Operand} (hpenalty : r.penalty = .never) (ho : i.operand = some o)
      (hextra : ∀ s, cyclesExtra i s = 0)
      (run : ∀ s, exec i s = jumpForm o r.baseCycles (fun ea s => { s with pc := ea }) s) : TimedForm r i
  | call (a : Word) (hbase : r.baseCycles = 6) (hpenalty : r.penalty = .never) : TimedForm r (.jsr a)
  | noOperand {i : Instr} {h : State → State} (ho : i.operand = none)
      (run : ∀ s, exec i s = impliedForm r.baseCycles h s) (hh : CycleBlind h) : TimedForm r i

theorem exists_timedForm {i : Instr} {op : Byte} {l : List Byte} {r : OpcodeRow} (henc : encode i = op :: l)
    (hrow : opcodeRow op = some r) (h : TimedForm r i) : ∃ r, opcodeRow i.opcode = some r ∧ TimedForm r i := by
  rw [Instr.opcode, henc, List.headD_cons]
  exact ⟨r, hrow, h⟩

/-- Each instruction runs in its shape with the counts of its row of the opcode map. -/
theorem opcodeRow_timedForm : (i : Instr) → ∃ r, opcodeRow i.opcode = some r ∧ TimedForm r i
  | .ldaImmediate _ | .ldaZeroPage _ | .ldaZeroPageX _ | .ldaAbsolute _ | .ldaAbsoluteX _ | .ldaAbsoluteY _
  | .ldaIndexedIndirectX _ | .ldaIndirectIndexedY _ | .ldxImmediate _ | .ldxZeroPage _ | .ldxZeroPageY _
  | .ldxAbsolute _ | .ldxAbsoluteY _ | .ldyImmediate _ | .ldyZeroPage _ | .ldyZeroPageX _ | .ldyAbsolute _
  | .ldyAbsoluteX _ | .adcImmediate _ | .adcZeroPage _ | .adcZeroPageX _ | .adcAbsolute _ | .adcAbsoluteX _
  | .adcAbsoluteY _ | .adcIndexedIndirectX _ | .adcIndirectIndexedY _ | .sbcImmediate _ | .sbcZeroPage _
  | .sbcZeroPageX _ | .sbcAbsolute _ | .sbcAbsoluteX _ | .sbcAbsoluteY _ | .sbcIndexedIndirectX _
  | .sbcIndirectIndexedY _ | .cmpImmediate _ | .cmpZeroPage _ | .cmpZeroPageX _ | .cmpAbsolute _ | .cmpAbsoluteX _
  | .cmpAbsoluteY _ | .cmpIndexedIndirectX _ | .cmpIndirectIndexedY _ | .cpxImmediate _ | .cpxZeroPage _
  | .cpxAbsolute _ | .cpyImmediate _ | .cpyZeroPage _ | .cpyAbsolute _ | .andImmediate _ | .andZeroPage _
  | .andZeroPageX _ | .andAbsolute _ | .andAbsoluteX _ | .andAbsoluteY _ | .andIndexedIndirectX _
  | .andIndirectIndexedY _ | .oraImmediate _ | .oraZeroPage _ | .oraZeroPageX _ | .oraAbsolute _ | .oraAbsoluteX _
  | .oraAbsoluteY _ | .oraIndexedIndirectX _ | .oraIndirectIndexedY _ | .eorImmediate _ | .eorZeroPage _
  | .eorZeroPageX _ | .eorAbsolute _ | .eorAbsoluteX _ | .eorAbsoluteY _ | .eorIndexedIndirectX _
  | .eorIndirectIndexedY _ | .bitZeroPage _ | .bitAbsolute _ =>
    exists_timedForm rfl rfl (.read rfl (fun _ => rfl) (fun _ => rfl) fun _ _ _ => rfl)
  | .staZeroPage _ | .staZeroPageX _ | .staAbsolute _ | .staAbsoluteX _ | .staAbsoluteY _ | .staIndexedIndirectX _
  | .staIndirectIndexedY _ | .stxZeroPage _ | .stxZeroPageY _ | .stxAbsolute _ | .styZeroPage _ | .styZeroPageX _
  | .styAbsolute _ =>
    exists_timedForm rfl rfl (.store rfl (fun _ => rfl) (fun _ => rfl) fun _ _ => rfl)
  | .incZeroPage _ | .incZeroPageX _ | .incAbsolute _ | .incAbsoluteX _ =>
    exists_timedForm rfl rfl (.modify .inc rfl (fun _ => rfl) fun _ => rfl)
  | .decZeroPage _ | .decZeroPageX _ | .decAbsolute _ | .decAbsoluteX _ =>
    exists_timedForm rfl rfl (.modify .dec rfl (fun _ => rfl) fun _ => rfl)
  | .aslZeroPage _ | .aslZeroPageX _ | .aslAbsolute _ | .aslAbsoluteX _ =>
    exists_timedForm rfl rfl (.modify .asl rfl (fun _ => rfl) fun _ => rfl)
  | .lsrZeroPage _ | .lsrZeroPageX _ | .lsrAbsolute _ | .lsrAbsoluteX _ =>
    exists_timedForm rfl rfl (.modify .lsr rfl (fun _ => rfl) fun _ => rfl)
  | .rolZeroPage _ | .rolZeroPageX _ | .rolAbsolute _ | .rolAbsoluteX _ =>
    exists_timedForm rfl rfl (.modify .rol rfl (fun _ => rfl) fun _ => rfl)
  | .rorZeroPage _ | .rorZeroPageX _ | .rorAbsolute _ | .rorAbsoluteX _ =>
    exists_timedForm rfl rfl (.modify .ror rfl (fun _ => rfl) fun _ => rfl)
  | .bpl _ | .bmi _ | .bvc _ | .bvs _ | .bcc _ | .bcs _ | .bne _ | .beq _ =>
    exists_timedForm rfl rfl (.branch rfl rfl rfl fun _ => rfl)
  | .jmpAbsolute _ | .jmpIndirect _ => exists_timedForm rfl rfl (.jump rfl rfl (fun _ => rfl) fun _ => rfl)
  | .jsr a => exists_timedForm rfl rfl (.call a rfl rfl)
  | .inx | .iny | .dex | .dey | .aslAccumulator | .lsrAccumulator | .rolAccumulator | .rorAccumulator | .rts | .pha
  | .php | .pla | .plp | .tax | .tay | .txa | .tya | .tsx | .txs | .clc | .sec | .cli | .sei | .cld | .sed | .clv
  | .nop | .brk | .rti => exists_timedForm rfl rfl (.noOperand rfl (fun _ => rfl) fun _ _ => rfl)

/-! ### Every instruction -/

/-- The cycles an instruction costs (48_execute_loop.md R286 to R288). -/
def instrCycles (i : Instr) (s : State) : Nat := i.baseCycles + cyclesExtra i s + pageCycles i s

theorem baseCycles_of_row {i : Instr} {r : OpcodeRow} (h : opcodeRow i.opcode = some r) :
    i.baseCycles = r.baseCycles := by
  simp [Instr.baseCycles, h]

theorem penalty_of_row {i : Instr} {r : OpcodeRow} (h : opcodeRow i.opcode = some r) : i.penalty = r.penalty := by
  simp [Instr.penalty, h]

theorem pageCycles_of_operand {i : Instr} {o : Operand} (ho : i.operand = some o) (s : State) :
    pageCycles i s = penaltyCycles i.penalty o s := by
  rw [pageCycles, ho]
  rfl

theorem cyclesExtra_of_relative {i : Instr} {o : Byte} (ho : i.operand = some (.relative o)) (s : State) :
    cyclesExtra i s = branchExtra o (branchCondition i.mnemonic s.p) s := by
  rw [cyclesExtra, ho]
  rfl

/-- Every instruction counts the cycles of its row, of its branch and of its page crossing. -/
theorem exec_countsCycles (i : Instr) (s : State) : CountsCycles (exec i) s (instrCycles i s) := by
  obtain ⟨r, hr, hform⟩ := opcodeRow_timedForm i
  rw [instrCycles, baseCycles_of_row hr]
  cases hform with
  | read ho hextra run hh =>
    rw [hextra, pageCycles_of_operand ho, penalty_of_row hr, funext run]
    exact readForm_countsCycles _ _ _ hh s
  | store ho hextra run hg =>
    rw [hextra, pageCycles_of_operand ho, penalty_of_row hr, funext run]
    exact storeForm_countsCycles _ _ _ hg s
  | modify _ ho hextra run =>
    rw [hextra, pageCycles_of_operand ho, penalty_of_row hr, funext run]
    exact modifyForm_countsCycles _ _ _ _ s
  | @branch i o ho hbase hpenalty run =>
    rw [cyclesExtra_of_relative ho, pageCycles_of_operand ho, penalty_of_row hr, hpenalty, hbase, funext run]
    exact branchForm_countsCycles o (branchCondition i.mnemonic s.p) s
  | jump hpenalty ho hextra run =>
    rw [hextra, pageCycles_of_operand ho, penalty_of_row hr, hpenalty, funext run]
    exact jumpForm_countsCycles _ _ (fun _ _ _ => rfl) s
  | call a hbase hpenalty =>
    have hextra : cyclesExtra (.jsr a) s = 0 := rfl
    rw [hextra, pageCycles_of_operand rfl, penalty_of_row hr, hpenalty, hbase]
    exact jsr_countsCycles a s
  | noOperand ho run hh =>
    have hextra : cyclesExtra i s = 0 := by rw [cyclesExtra, ho]
    have hpage : pageCycles i s = 0 := by rw [pageCycles, ho]
    rw [hextra, hpage, funext run]
    exact impliedForm_countsCycles _ hh s

/-! ### The range of the counts -/

/-- The rows with a read penalty and the branches are short (opcode_table.json `base_cycles`). -/
theorem opcodeRow_baseCycles_le_five {op : Byte} {r : OpcodeRow} (h : opcodeRow op = some r)
    (hr : r.penalty = .read ∨ r.mode = .relative) : r.baseCycles ≤ 5 := by
  have all : ∀ op : Byte,
      ((opcodeRow op).all fun r => decide (r.penalty = .read ∨ r.mode = .relative → r.baseCycles ≤ 5)) = true := by
    decide
  have hop := all op
  rw [h, Option.all_some, decide_eq_true_iff] at hop
  exact hop hr

theorem mode_of_relative {i : Instr} {o : Byte} (ho : i.operand = some (.relative o)) : i.mode = .relative := by
  cases i with
  | bpl | bmi | bvc | bvs | bcc | bcs | bne | beq => rfl
  | _ => cases ho

theorem cyclesExtra_of_not_relative {i : Instr} (hi : ∀ o, i.operand ≠ some (.relative o)) (s : State) :
    cyclesExtra i s = 0 := by
  unfold cyclesExtra
  split
  · next o ho => exact absurd ho (hi o)
  · rfl

theorem branchExtra_le_two (o : Byte) (cond : Bool) (s : State) : branchExtra o cond s ≤ 2 := by
  unfold branchExtra
  split_ifs <;> omega

/-- A page crossing costs one cycle at most, and a store or a read-modify-write pays it under
PAGE_PENALTY_ON_STORE_RMW only (48_execute_loop.md R288). -/
theorem penaltyCycles_cases (cls : PenaltyClass) (o : Operand) (s : State) :
    penaltyCycles cls o s = 0 ∨
      penaltyCycles cls o s = 1 ∧ (cls = .read ∨ s.params.pagePenaltyOnStoreRmw = true) := by
  cases cls with
  | never => exact .inl rfl
  | read =>
    by_cases hcross : pageCrossed o s = true
    · exact .inr ⟨if_pos hcross, .inl rfl⟩
    · exact .inl (if_neg hcross)
  | storeRmw =>
    by_cases hcross : pageCrossed o s = true ∧ s.params.pagePenaltyOnStoreRmw = true
    · exact .inr ⟨if_pos hcross, .inr hcross.2⟩
    · exact .inl (if_neg hcross)

/-- A branch target is no indexed address, so it crosses no page in the sense of the penalty
(40_addressing_modes.md R142, R144). -/
theorem penaltyCycles_relative (cls : PenaltyClass) (o : Byte) (s : State) : penaltyCycles cls (.relative o) s = 0 := by
  cases cls <;> rfl

/-- Base counts run from 2 to 7; only a store or a read-modify-write of 7 cycles can reach 8. -/
theorem instrCycles_bounds (i : Instr) (s : State) :
    2 ≤ instrCycles i s ∧ instrCycles i s ≤ 8 ∧ (instrCycles i s = 8 → s.params.pagePenaltyOnStoreRmw = true) := by
  obtain ⟨r, hr, -, hmode, -⟩ := opcodeRow_opcode i
  obtain ⟨hlow, hhigh⟩ := opcodeRow_baseCycles hr
  have hshort := opcodeRow_baseCycles_le_five hr
  rw [instrCycles, baseCycles_of_row hr]
  by_cases hbranch : ∃ o, i.operand = some (.relative o)
  · obtain ⟨o, ho⟩ := hbranch
    have hbase := hshort (.inr (hmode.trans (mode_of_relative ho)))
    have hextra := branchExtra_le_two o (branchCondition i.mnemonic s.p) s
    rw [cyclesExtra_of_relative ho, pageCycles_of_operand ho, penaltyCycles_relative]
    omega
  · rw [cyclesExtra_of_not_relative (not_exists.mp hbranch)]
    cases ho : i.operand with
    | none =>
      have hpage : pageCycles i s = 0 := by rw [pageCycles, ho]
      omega
    | some o =>
      rw [pageCycles_of_operand ho, penalty_of_row hr]
      obtain hzero | ⟨hone, hread | hparam⟩ := penaltyCycles_cases r.penalty o s
      · omega
      · have hbase := hshort (.inl hread)
        omega
      · exact ⟨by omega, by omega, fun _ => hparam⟩

/-! ### The step -/

theorem executeShape_countsCycles (shape : Shape) (s : State) : ∃ n, CountsCycles (executeShape shape) s n := by
  cases shape with
  | f1 i =>
    obtain ⟨t, ht, hk⟩ := exec_countsCycles i s
    exact ⟨_, t, ht, hk⟩
  | f2 make =>
    obtain ⟨t, ht, hk⟩ := exec_countsCycles (make (s.byteAt s.pc)) (fetchByte s).2
    exact ⟨_, t, ht, hk⟩
  | f3 make =>
    obtain ⟨t, ht, hk⟩ := exec_countsCycles (make (joinBytes (s.byteAt (s.pc + 1)) (s.byteAt s.pc)))
      (fetchByte (fetchByte s).2).2
    exact ⟨_, t, ht, hk⟩

theorem executeOne_countsCycles (s : State) : ∃ n, CountsCycles executeOne s n := by
  cases ho : opcodeRow (s.byteAt s.pc) with
  | none =>
    refine ⟨0, _, executeOne_invalid ho, fun k => (executeOne_invalid (s := withCycleTotal k s) ho).trans ?_⟩
    rw [BitVec.add_zero]
    rfl
  | some r =>
    obtain ⟨n, t, ht, hk⟩ := executeShape_countsCycles r.shape (fetchByte s).2
    exact ⟨n, t, (executeOne_row ho).trans ht, fun k => (executeOne_row (s := withCycleTotal k s) ho).trans (hk k)⟩

theorem interruptEntry_countsCycles (k : InterruptKind) (s : State) :
    CountsCycles (fun s => .next (interruptEntry k s)) s 7 := by
  cases k with
  | nmi => exact ⟨_, rfl, fun _ => rfl⟩
  | irq => exact ⟨_, rfl, fun _ => rfl⟩

theorem stepFetching_countsCycles (s : State) : ∃ n, CountsCycles stepFetching s n := by
  cases ha : acceptedInterrupt s with
  | none =>
    obtain ⟨n, t, ht, hk⟩ := executeOne_countsCycles (beginStep s)
    exact ⟨n, t, (stepFetching_of_none ha).trans ht,
      fun k => (stepFetching_of_none (s := withCycleTotal k s) ha).trans (hk k)⟩
  | some kind =>
    obtain ⟨t, ht, hk⟩ := interruptEntry_countsCycles kind (beginStep s)
    exact ⟨7, t, (stepFetching_of_some ha).trans ht,
      fun k => (stepFetching_of_some (s := withCycleTotal k s) ha).trans (hk k)⟩

end Sys2Proof.Machine

/-- Settles O40: a step in Fetching counts the same cycles on every total, and a step in Halted counts none. -/
theorem Sys2Proof.Proofs.stepReadsNoCycleTotal : Obligations.StepReadsNoCycleTotal := by
  intro s k
  cases hl : s.loopState with
  | halted =>
    rw [step_halted hl, step_halted (s := withCycleTotal k s) hl]
    exact ⟨fun _ h => (nomatch h), fun _ h => h⟩
  | fetching =>
    obtain ⟨n, hcounts⟩ := stepFetching_countsCycles s
    have ⟨t, ht, hk⟩ := hcounts
    rw [step_fetching hl, step_fetching (s := withCycleTotal k s) hl, ht, hk]
    refine ⟨fun u hu => ?_, fun _ h => (nomatch h)⟩
    cases hu
    rw [hcounts.cycleTotal_eq ht, add_sub_cancel_left]

/-- Settles O27: the count of every instruction is added to the total it finds. -/
theorem Sys2Proof.Proofs.cycleCountOfEveryInstruction : Obligations.CycleCountOfEveryInstruction :=
  fun i s _ h => (exec_countsCycles i s).cycleTotal_eq h

/-- Settles O28: the count that is added lies in the range. -/
theorem Sys2Proof.Proofs.instructionsCostTwoToEightCycles : Obligations.InstructionsCostTwoToEightCycles := by
  intro i s t h
  obtain ⟨hlow, hhigh, height⟩ := instrCycles_bounds i s
  exact ⟨instrCycles i s, hlow, hhigh, height, (exec_countsCycles i s).cycleTotal_eq h⟩
end

-- The block state and PC
section
/-! PROOFS. What every instruction and step leaves alone: the loop state, the fault record, the interrupt inputs and the
parameters (10_state.md R44; 60_exceptions.md R311), and, but for the control transfers, PC (48_execute_loop.md
R291). -/

open Sys2Proof.Claims Sys2Proof.Machine

namespace Sys2Proof.Machine

/-! ### Every instruction -/

/-- The block state but cycle_total (10_state.md R44) and the parameters are the same in `t` as in `s`. -/
def BlockStateKept (s t : State) : Prop :=
  t.loopState = s.loopState ∧ t.fault = s.fault ∧ t.nmiPending = s.nmiPending ∧ t.irqLine = s.irqLine ∧
    t.params = s.params

theorem BlockStateKept.charge (n : Nat) {s t : State} (h : BlockStateKept s t) : BlockStateKept s (charge n t) := h

theorem BlockStateKept.setPc (pc : Word) {s t : State} (h : BlockStateKept s t) :
    BlockStateKept s { t with pc := pc } := h

theorem blockStateKept_push16 (w : Word) (s : State) : BlockStateKept s (push16 w s) := by
  simp [BlockStateKept, push16]

theorem blockStateKept_takeException (ret : Word) (b : Bool) (vector : Word) (s : State) :
    BlockStateKept s (takeException ret b vector s) := by
  simpa [BlockStateKept, takeException_eq] using blockStateKept_push16 ret s

theorem ReadHandler.blockStateKept {m : Mnemonic} {h : Byte → State → State} (hh : ReadHandler m h) (v : Byte)
    (s : State) : BlockStateKept s (h v s) ∧ (h v s).pc = s.pc := by
  cases hh <;> exact ⟨⟨rfl, rfl, rfl, rfl, rfl⟩, rfl⟩

theorem transfer_of_relative {i : Instr} {o : Byte} (ho : i.operand = some (.relative o)) :
    i.mnemonic ∈ transfers := by
  cases i with
  | bpl | bmi | bvc | bvs | bcc | bcs | bne | beq => simp [Instr.mnemonic, transfers]
  | _ => cases ho

theorem Implied.blockStateKept {i : Instr} (hi : Implied i) (s : State) :
    ∃ t, exec i s = .next t ∧ BlockStateKept s t ∧ (i.mnemonic ∉ transfers → t.pc = s.pc) := by
  cases hi with
  | brk =>
    exact ⟨_, exec_brk s, (blockStateKept_takeException (s.pc + 1) true irqVector s).charge 7, absurd (by decide)⟩
  | rts => exact ⟨_, exec_rts s, ⟨rfl, rfl, rfl, rfl, rfl⟩, absurd (by decide)⟩
  | rti => exact ⟨_, exec_rti s, ⟨rfl, rfl, rfl, rfl, rfl⟩, absurd (by decide)⟩
  | inx | iny | dex | dey | pha | php | pla | plp | tax | tay | txa | tya | tsx | txs | clc | sec | cli | sei | cld
  | sed | clv | nop => exact ⟨_, rfl, ⟨rfl, rfl, rfl, rfl, rfl⟩, fun _ => rfl⟩

/-- Every instruction completes and keeps the block state, and PC unless it is a control transfer. -/
theorem exec_blockStateKept (i : Instr) (s : State) :
    ∃ t, exec i s = .next t ∧ BlockStateKept s t ∧ (i.mnemonic ∉ transfers → t.pc = s.pc) := by
  cases exec_form i with
  | read hh _ run =>
    obtain ⟨hkept, hpc⟩ := hh.blockStateKept _ (s.record _)
    exact ⟨_, (run s).trans (readForm_eq ..), hkept, fun _ => hpc⟩
  | store _ _ run => exact ⟨_, (run s).trans (storeForm_eq ..), ⟨rfl, rfl, rfl, rfl, rfl⟩, fun _ => rfl⟩
  | modify _ _ run => exact ⟨_, (run s).trans (modifyForm_eq ..), ⟨rfl, rfl, rfl, rfl, rfl⟩, fun _ => rfl⟩
  | accumulator _ _ run =>
    exact ⟨_, (run s).trans (accumulatorForm_eq ..), ⟨rfl, rfl, rfl, rfl, rfl⟩, fun _ => rfl⟩
  | branch ho run =>
    obtain ⟨n, pc, hb⟩ := branchForm_changes_pc _ _ s
    exact ⟨_, (run s).trans hb, ⟨rfl, rfl, rfl, rfl, rfl⟩, absurd (transfer_of_relative ho)⟩
  | jump hm _ run =>
    exact ⟨_, (run s).trans (jumpForm_eq ..), ⟨rfl, rfl, rfl, rfl, rfl⟩, absurd (by rw [hm]; decide)⟩
  | call a =>
    exact ⟨_, exec_jsr a s, ((blockStateKept_push16 (s.pc - 1) s).setPc a).charge 6,
      absurd (by simp [Instr.mnemonic, transfers])⟩
  | implied hi => exact hi.blockStateKept s

/-! ### The step -/

/-- The entry of an interrupt is that of an exception, with PC as the return address and P.B pushed as 0; it changes
nothing of the block state but the NMI latch and the cycle total (60_exceptions.md R318, R319). -/
theorem interruptEntry_eq (k : InterruptKind) (s : State) :
    ∃ nmi vector,
      interruptEntry k s = charge 7 (takeException s.pc false vector { s with nmiPending := nmi }) := by
  cases k with
  | nmi => exact ⟨false, nmiVector, rfl⟩
  | irq => exact ⟨s.nmiPending, irqVector, rfl⟩

theorem blockStateKept_interruptEntry (k : InterruptKind) (s : State) :
    ∃ nmi, BlockStateKept { s with nmiPending := nmi } (interruptEntry k s) := by
  obtain ⟨nmi, vector, hentry⟩ := interruptEntry_eq k s
  rw [hentry]
  exact ⟨nmi, (blockStateKept_takeException s.pc false vector { s with nmiPending := nmi }).charge 7⟩

/-- A step in Fetching completes and keeps the parameters and the IRQ level (48_execute_loop.md R280). -/
theorem stepFetching_next (s : State) :
    ∃ t, stepFetching s = .next t ∧ t.params = s.params ∧ t.irqLine = s.irqLine := by
  obtain ⟨k, -, hstep⟩ | ⟨-, -, hstep⟩ | ⟨-, i, hstep⟩ := stepFetching_cases s
  · obtain ⟨_, -, -, -, hirq, hparams⟩ := blockStateKept_interruptEntry k (beginStep s)
    exact ⟨_, hstep, hparams, hirq⟩
  · exact ⟨_, hstep, rfl, rfl⟩
  · obtain ⟨t, ht, ⟨-, -, -, hirq, hparams⟩, -⟩ := exec_blockStateKept i (fetchedBytes i.length (beginStep s))
    exact ⟨t, hstep.trans ht, hparams, hirq⟩

theorem step_of_decode {s : State} {i : Instr} {rest : List Byte} (hs : Running s)
    (h : decode (bytesAtPc s) = .ok (i, rest)) : step s = exec i (fetched i.length s) :=
  (step_of_running hs).trans (executeOne_of_decode (s := beginStep s) h).2

theorem step_of_invalid {s : State} (hs : Running s) (h : s.byteAt s.pc ∈ invalidOpcodes) :
    step s = .next { s with
      pc := s.pc + 1, bus := [.read s.pc], loopState := .halted, fault := some ⟨s.byteAt s.pc, s.pc⟩ } := by
  have hnone : opcodeRow ((beginStep s).byteAt (beginStep s).pc) = none := opcodeRow_of_invalid h
  exact (step_of_running hs).trans (executeOne_invalid hnone)

end Sys2Proof.Machine

/-- Settles O21, by the shape of the instruction. -/
theorem Sys2Proof.Proofs.everyInstructionCompletes : Obligations.EveryInstructionCompletes := by
  intro i s
  obtain ⟨t, ht, hkept, -⟩ := exec_blockStateKept i s
  exact ⟨t, ht, hkept⟩

/-- Settles O35: each of the two loop states has its own kind of answer. -/
theorem Sys2Proof.Proofs.stepAnswersNextExactlyInFetching : Obligations.StepAnswersNextExactlyInFetching :=
  fun s => ⟨fun hl => step_fetching hl ▸ stepFetching_next s, step_halted⟩

/-- Settles O30: the fetched bytes decode to one instruction only, the one the dispatch table selects. -/
theorem Sys2Proof.Proofs.stepRunsTheDecodedInstruction : Obligations.StepRunsTheDecodedInstruction :=
  fun _ _ _ => step_of_decode

/-- Settles O42: PC is past the instruction when it runs, and only control transfers replace it. -/
theorem Sys2Proof.Proofs.pcAdvancesByTheInstructionLength : Obligations.PcAdvancesByTheInstructionLength := by
  intro s t i rest hs hdec hi hstep
  obtain ⟨t', ht', -, hpc⟩ := exec_blockStateKept i (fetched i.length s)
  cases ((step_of_decode hs hdec).trans ht').symm.trans hstep
  rw [hpc hi, fetched, Instr.length]
  bv_omega

/-- Settles O32: a step in Halted looks at the loop state and the fault record, which no interrupt changes. -/
theorem Sys2Proof.Proofs.haltedStepsChangeNothing : Obligations.HaltedStepsChangeNothing :=
  fun s level hl =>
    ⟨step_halted hl, step_halted (s := setIrq level s) hl, step_halted (s := signalNmi s) hl, rfl, rfl, rfl, rfl⟩
end

-- The entry of an interrupt
section
/-! PROOFS. Which interrupt a step boundary accepts, its entry in the statements' terms, and the return from it
(60_exceptions.md R313 to R321). -/

open Sys2Proof.Claims Sys2Proof.Machine

namespace Sys2Proof.Machine

/-- An `Ok` step returns what it added to the total, when that is a 64-bit number (48_execute_loop.md R286, R296). -/
theorem hostStep_ok {s t : State} {n : Nat} (h : step s = .next t) (hl : t.loopState = .fetching)
    (ht : t.cycleTotal = s.cycleTotal + BitVec.ofNat 64 n) (hn : n < 2 ^ 64) : hostStep s = (t, .ok n) := by
  simp only [hostStep, h, hl, ht, add_sub_cancel_left, BitVec.toNat_ofNat, Nat.mod_eq_of_lt hn]

/-- The step that takes an accepted interrupt, and the 7 cycles it returns (60_exceptions.md R317, R319). -/
theorem step_of_accepted {s : State} {k : InterruptKind} (hl : s.loopState = .fetching)
    (hk : acceptedInterrupt s = some k) :
    step s = .next (interruptEntry k (beginStep s)) ∧ (hostStep s).2 = .ok 7 := by
  have hstep := (step_fetching hl).trans (stepFetching_of_some hk)
  have hloop : (interruptEntry k (beginStep s)).loopState = .fetching := by
    obtain ⟨_, hkept, -⟩ := blockStateKept_interruptEntry k (beginStep s)
    exact hkept.trans hl
  have htotal := (interruptEntry_countsCycles k (beginStep s)).cycleTotal_eq rfl
  exact ⟨hstep, congrArg Prod.snd (hostStep_ok hstep hloop htotal (by decide))⟩

theorem acceptedInterrupt_nmi {s : State} (h : s.nmiPending = true) : acceptedInterrupt s = some .nmi := by
  simp [acceptedInterrupt, h]

theorem acceptedInterrupt_irq {s : State} (hnmi : s.nmiPending = false) (hirq : s.irqLine = true)
    (hi : s.p.i = false) : acceptedInterrupt s = some .irq := by
  simp [acceptedInterrupt, hnmi, hirq, hi]

theorem interruptEntry_nmi (s : State) :
    interruptEntry .nmi s = entered s.pc false 0xFFFA { s with nmiPending := false } :=
  charge_takeException s.pc false (vector := nmiVector) { s with nmiPending := false } (by decide) (by decide)

theorem interruptEntry_irq (s : State) : interruptEntry .irq s = entered s.pc false 0xFFFE s :=
  charge_takeException s.pc false (vector := irqVector) s (by decide) (by decide)

theorem step_of_irq {s : State} (hl : s.loopState = .fetching) (hnmi : s.nmiPending = false) (hirq : s.irqLine = true)
    (hi : s.p.i = false) :
    step s = .next (entered s.pc false 0xFFFE { s with bus := [] }) ∧ (hostStep s).2 = .ok 7 := by
  obtain ⟨hstep, hok⟩ := step_of_accepted hl (acceptedInterrupt_irq hnmi hirq hi)
  exact ⟨hstep.trans (congrArg _ (interruptEntry_irq (beginStep s))), hok⟩

/-- RTI right after the entry of an interrupt brings back PC, SP and the flags, with P.B clear, keeps A, X and Y, and
writes no memory (60_exceptions.md R321). -/
theorem exec_rti_interruptEntry (k : InterruptKind) (s : State) :
    ∃ u, exec .rti (interruptEntry k s) = .next u ∧ u.pc = s.pc ∧ u.sp = s.sp ∧ u.p = { s.p with b := false } ∧
      u.a = s.a ∧ u.x = s.x ∧ u.y = s.y ∧ ∀ b, u.byteAt b = (interruptEntry k s).byteAt b := by
  obtain ⟨nmi, vector, hentry⟩ := interruptEntry_eq k s
  rw [hentry]
  refine ⟨_, exec_rti_takeException s.pc false vector { s with nmiPending := nmi } (by simp)
    (by simp [State.byteAt]), ?_⟩
  simp [State.byteAt]

end Sys2Proof.Machine

/-- Settles O33, clause by clause along `InterruptAccepted()`. -/
theorem Sys2Proof.Proofs.interruptEntryAndPriority : Obligations.InterruptEntryAndPriority := by
  intro s hl
  refine ⟨fun hnmi => ?_, step_of_irq hl, fun hnmi hmask => step_of_running ⟨hl, hnmi, hmask⟩⟩
  obtain ⟨hstep, hok⟩ := step_of_accepted hl (acceptedInterrupt_nmi hnmi)
  exact ⟨hstep.trans (congrArg _ (interruptEntry_nmi (beginStep s))), hok⟩

/-- Settles O34: after the CLI nothing masks the pending IRQ, and a step begins by looking for one. -/
theorem Sys2Proof.Proofs.cliLetsIrqInAtTheNextBoundary : Obligations.CliLetsIrqInAtTheNextBoundary := by
  intro s hs hirq hop
  have hdec : decode (bytesAtPc s) = .ok (.cli, [s.byteAt (s.pc + 1), s.byteAt (s.pc + 2)]) := by
    rw [bytesAtPc, hop]
    exact decode_encode .cli _
  have ⟨hl, hnmi, _⟩ := hs
  obtain ⟨t, ht, hlt, hnmit, hirqt, hi, hpc⟩ : ∃ t, step s = .next t ∧ t.loopState = .fetching ∧
      t.nmiPending = false ∧ t.irqLine = true ∧ t.p.i = false ∧ t.pc = s.pc + 1 :=
    ⟨_, step_of_decode hs hdec, hl, hnmi, hirq, rfl, rfl⟩
  obtain ⟨hentry, -⟩ := step_of_irq hlt hnmit hirqt hi
  exact ⟨t, ht, hi, hpc, hpc ▸ hentry⟩

/-- Settles O44: the entry changes nothing but the three stack bytes that RTI pulls, the status and PC it restores, and
the NMI latch. -/
theorem Sys2Proof.Proofs.rtiUndoesAnInterruptEntry : Obligations.RtiUndoesAnInterruptEntry := by
  intro s t hl hb hpending hstep
  obtain ⟨k, hk⟩ : ∃ k, acceptedInterrupt s = some k := by
    cases hnmi : s.nmiPending with
    | true => exact ⟨.nmi, acceptedInterrupt_nmi hnmi⟩
    | false =>
      obtain ⟨hirq, hi⟩ := hpending.resolve_left (by simp [hnmi])
      exact ⟨.irq, acceptedInterrupt_irq hnmi hirq hi⟩
  obtain ⟨hentry, -⟩ := step_of_accepted hl hk
  cases hentry.symm.trans hstep
  obtain ⟨u, hu, hpc, hsp, hp, ha, hx, hy, hmem⟩ := exec_rti_interruptEntry k (beginStep s)
  refine ⟨u, hu, hpc, hsp, hp.trans (by rw [← hb]; rfl), ha, hx, hy, fun b hb0 hb1 hb2 => ?_⟩
  simp only [stackByte_eq] at hb0 hb1 hb2
  rw [hmem]
  exact (writesOnlyAt_interruptEntry k (beginStep s)).byteAt_eq (by simpa [exceptionSlots, hb0] using ⟨hb1, hb2⟩)
end

-- The host operations
section
/-! PROOFS. Loading and poking memory, placing an instruction, reset and construction (48_execute_loop.md R298 to R300;
70_reset_and_hazards.md R340 to R343). -/

open Sys2Proof.Claims Sys2Proof.Machine

namespace Sys2Proof.Machine

/-! ### Loading a byte sequence -/

theorem add_ofNat_succ (a : Word) (i : Nat) : a + BitVec.ofNat 16 (i + 1) = a + 1 + BitVec.ofNat 16 i := by
  bv_omega

theorem storeBytes_append (l l' : List Byte) (a : Word) (m : Memory) :
    storeBytes (l ++ l') a m = storeBytes l' (a + BitVec.ofNat 16 l.length) (storeBytes l a m) := by
  induction l generalizing a m with
  | nil => simp [storeBytes]
  | cons v l ih => rw [List.cons_append, storeBytes, ih, List.length_cons, add_ofNat_succ, storeBytes]

/-- An address that no byte of the sequence goes to reads as before (48_execute_loop.md R299). -/
theorem read_storeBytes_other {l : List Byte} {a b : Word} (m : Memory)
    (hb : ∀ i, i < l.length → b ≠ a + BitVec.ofNat 16 i) : (storeBytes l a m).read b.toNat = m.read b.toNat := by
  induction l generalizing a m with
  | nil => rfl
  | cons v l ih =>
    have htail : ∀ i, i < l.length → b ≠ a + 1 + BitVec.ofNat 16 i := fun i hi =>
      add_ofNat_succ a i ▸ hb (i + 1) (Nat.succ_lt_succ hi)
    have hhead : b ≠ a := by simpa using hb 0 (Nat.succ_pos _)
    rw [storeBytes, ih _ htail, Memory.read_write_other _ _ (by rwa [ne_eq, BitVec.toNat_inj])]

/-- Byte `i` is at the `i`-th address when the sequence is no longer than memory, so that it overwrites nothing of its
own (48_execute_loop.md R299). -/
theorem read_storeBytes_same {l : List Byte} (a : Word) (m : Memory) (hl : l.length ≤ 65536) {i : Nat}
    (hi : i < l.length) : (storeBytes l a m).read (a + BitVec.ofNat 16 i).toNat = l[i] := by
  induction l generalizing a m i with
  | nil => cases hi
  | cons v l ih =>
    rw [List.length_cons] at hl hi
    cases i with
    | zero =>
      have hkept : ∀ j, j < l.length → a ≠ a + 1 + BitVec.ofNat 16 j := fun j hj => by bv_omega
      rw [BitVec.add_zero, storeBytes, read_storeBytes_other _ hkept, Memory.read_write_same, List.getElem_cons_zero]
    | succ i =>
      rw [add_ofNat_succ, storeBytes, ih _ _ (by omega) (by omega), List.getElem_cons_succ]

/-! ### Placing an instruction -/

theorem running_withFetchWord (s : State) (nbits w : Nat) : Running (s.withFetchWord nbits w) := by
  refine ⟨rfl, rfl, ?_⟩
  cases hi : s.p.i with
  | false => exact .inl (by simp [State.withFetchWord, placeInstruction, hi])
  | true => exact .inr hi

theorem bytesAtPc_of_storeBytes {t : State} {b0 b1 b2 : Byte} {m : Memory}
    (h : t.mem = storeBytes [b0, b1, b2] t.pc m) : bytesAtPc t = [b0, b1, b2] := by
  have hread : ∀ i (hi : i < 3), t.byteAt (t.pc + BitVec.ofNat 16 i) = [b0, b1, b2][i] := fun i hi => by
    rw [State.byteAt, h]
    exact read_storeBytes_same t.pc m (by simp) hi
  have h0 : t.byteAt t.pc = b0 := (congrArg t.byteAt (BitVec.add_zero t.pc).symm).trans (hread 0 (by decide))
  have h1 : t.byteAt (t.pc + 1) = b1 := hread 1 (by decide)
  have h2 : t.byteAt (t.pc + 2) = b2 := hread 2 (by decide)
  rw [bytesAtPc, h0, h1, h2]

/-- The bytes at PC are those of the word (30_encoding.md R107). -/
theorem bytesAtPc_withFetchWord (s : State) (nbits w : Nat) :
    bytesAtPc (s.withFetchWord nbits w) = tableBytes nbits w :=
  bytesAtPc_of_storeBytes (m := s.mem) rfl

/-! ### Reset -/

theorem hostReset_eq (s : State) :
    hostReset s = { s with
      pc := wordOf (s.byteAt 0xFFFD) (s.byteAt 0xFFFC)
      sp := s.params.resetSp
      p := { s.p with i := true, b := false }
      loopState := .fetching, fault := none, nmiPending := false, cycleTotal := 0
      bus := [.read 0xFFFC, .read 0xFFFD] } := by
  rw [hostReset, memRead16_eq, wordOf_eq_joinBytes]
  rfl

theorem stateInv_hostReset {s : State} (hwf : s.mem.wf = true) : StateInv (hostReset s) := by
  rw [hostReset_eq]
  exact ⟨hwf, rfl, by simp⟩

end Sys2Proof.Machine

/-- Settles O54: each byte goes to its own address, and a longer sequence is loaded piece by piece. -/
theorem Sys2Proof.Proofs.loadWritesBytesInOrder : Obligations.LoadWritesBytesInOrder := fun origin l l' s =>
  ⟨fun hl _ hi => read_storeBytes_same origin s.mem hl hi, fun _ hb => read_storeBytes_other s.mem hb,
    congrArg (fun m => { s with mem := m }) (storeBytes_append l l' origin s.mem), rfl⟩

/-- Settles O51: the three bytes of the word lie at PC, and the state accepts no interrupt. -/
theorem Sys2Proof.Proofs.placedWordRunsNext : Obligations.PlacedWordRunsNext := by
  intro s nbits w i h
  obtain ⟨rest, hdec⟩ : ∃ rest, decode (tableBytes nbits w) = .ok (i, rest) := by
    unfold decodeTableWord at h
    split at h
    · next j rest hdec =>
      cases h
      exact ⟨rest, hdec⟩
    · cases h
  rw [← bytesAtPc_withFetchWord s] at hdec
  exact step_of_decode (running_withFetchWord s nbits w) hdec

/-- Settles O55: poke is one write to memory. -/
theorem Sys2Proof.Proofs.pokeAndPeek : Obligations.PokeAndPeek := by
  intro s addr b v
  refine ⟨?_, rfl⟩
  simp only [peek, State.byteAt, poke_mem, Memory.read_write, BitVec.toNat_inj]

/-- Settles O52: the two vector reads and the record update of `reset()`, written out. -/
theorem Sys2Proof.Proofs.resetOperation : Obligations.ResetOperation := hostReset_eq

/-- Settles O53: reset leaves the draw alone, and its vector bytes are 0. -/
theorem Sys2Proof.Proofs.constructionForEveryDraw : Obligations.ConstructionForEveryDraw := by
  refine ⟨fun params draw => ?_, rfl⟩
  rw [construct, hostReset_eq]
  exact ⟨rfl, rfl, rfl, rfl, rfl, rfl, rfl, rfl, rfl, rfl, rfl, fun _ => rfl⟩
end

-- Running for the host
section
/-! PROOFS. The results of step(), run(n) and run(until_halt) (48_execute_loop.md R296, R297), and the invariant under
every host operation (R295). -/

open Sys2Proof.Claims Sys2Proof.Machine

namespace Sys2Proof.Machine

/-! ### step() -/

theorem hostStep_fst {s t : State} (h : step s = .next t) : (hostStep s).1 = t := by
  cases hl : t.loopState <;> simp [hostStep, h, hl]

theorem hostStep_err_of_next {s t : State} (h : step s = .next t) (hl : t.loopState = .halted) :
    hostStep s = (t, .err t.fault) := by
  simp [hostStep, h, hl]

theorem hostStep_of_invalid {s : State} (hs : Running s) (h : s.byteAt s.pc ∈ invalidOpcodes) :
    (hostStep s).2 = .err (some ⟨s.byteAt s.pc, s.pc⟩) :=
  congrArg Prod.snd (hostStep_err_of_next (step_of_invalid hs h) rfl)

theorem hostStep_halted {s : State} (hl : s.loopState = .halted) : hostStep s = (s, .err s.fault) := by
  simp [hostStep, step_halted hl]

/-- An `Err` leaves the block in Halted with the fault it returns (48_execute_loop.md R290, R296). -/
theorem halted_of_hostStep_err {s t : State} {f : Option DecodeFault} (h : hostStep s = (t, .err f)) :
    t.loopState = .halted ∧ t.fault = f := by
  cases hl : s.loopState with
  | halted =>
    cases (hostStep_halted hl).symm.trans h
    exact ⟨hl, rfl⟩
  | fetching =>
    obtain ⟨u, hu, -⟩ := stepFetching_next s
    have hstep := (step_fetching hl).trans hu
    cases hul : u.loopState with
    | halted =>
      cases (hostStep_err_of_next hstep hul).symm.trans h
      exact ⟨hul, rfl⟩
    | fetching => simp [hostStep, hstep, hul] at h

theorem stateInv_hostStep {s : State} (hs : StateInv s) : StateInv (hostStep s).1 := by
  cases hl : s.loopState with
  | halted => rwa [hostStep_halted hl]
  | fetching =>
    obtain ⟨t, ht, hinv⟩ := stepFetching_stateInv hs
    rwa [hostStep_fst ((step_fetching hl).trans ht)]

/-! ### run(n) -/

/-- A result with more cycles before it. -/
def RunResult.addCycles (c : Nat) (r : RunResult) : RunResult := { r with cycles := c + r.cycles }

theorem run_succ_ok {s t : State} {c : Nat} (h : hostStep s = (t, .ok c)) (n : Nat) :
    run (n + 1) s = (run n t).addCycles c := by
  rw [run, h]
  rfl

theorem run_succ_err {s t : State} {f : Option DecodeFault} (h : hostStep s = (t, .err f)) (n : Nat) :
    run (n + 1) s = ⟨t, 0, some f⟩ := by
  rw [run, h]

/-- After a run that met no `Err`, a longer run goes on from its end state. -/
theorem run_add_of_running {m : Nat} {s : State} (n : Nat) (h : (run m s).stopped = none) :
    run (m + n) s = (run n (run m s).state).addCycles (run m s).cycles := by
  induction m generalizing s with
  | zero => simp [run, RunResult.addCycles]
  | succ m ih =>
    rw [Nat.succ_add]
    rcases hs : hostStep s with ⟨t, c | f⟩
    · rw [run_succ_ok hs] at h ⊢
      rw [run_succ_ok hs, ih h]
      simp [RunResult.addCycles, Nat.add_assoc]
    · rw [run_succ_err hs] at h
      cases h

/-- A run that met an `Err` stays there, in Halted with the fault it returned. -/
theorem run_add_of_stopped {m : Nat} {s : State} {f : Option DecodeFault} (n : Nat) (h : (run m s).stopped = some f) :
    run (m + n) s = run m s ∧ (run m s).state.loopState = .halted ∧ (run m s).state.fault = f := by
  induction m generalizing s with
  | zero => cases h
  | succ m ih =>
    rw [Nat.succ_add]
    rcases hs : hostStep s with ⟨t, c | g⟩
    · rw [run_succ_ok hs] at h ⊢
      obtain ⟨hrun, hhalt⟩ := ih h
      rw [run_succ_ok hs, hrun]
      exact ⟨rfl, hhalt⟩
    · rw [run_succ_err hs] at h ⊢
      cases h
      rw [run_succ_err hs]
      exact ⟨rfl, halted_of_hostStep_err hs⟩

theorem stateInv_run (n : Nat) {s : State} (hs : StateInv s) : StateInv (run n s).state := by
  induction n generalizing s with
  | zero => exact hs
  | succ n ih =>
    have hinv := stateInv_hostStep hs
    rcases hstep : hostStep s with ⟨t, c | f⟩ <;> rw [hstep] at hinv
    · rw [run_succ_ok hstep]
      exact ih hinv
    · rwa [run_succ_err hstep]

/-! ### run(until_halt) -/

theorem runsUntilHalt_iff (s : State) (r : RunResult) :
    RunsUntilHalt s r ↔ ∃ n f, run n s = r ∧ r.stopped = some f := by
  simp only [RunsUntilHalt, Option.isSome_iff_exists, exists_and_left]

theorem runsUntilHalt_unique {s : State} {r q : RunResult} (hr : RunsUntilHalt s r) (hq : RunsUntilHalt s q) :
    r = q := by
  rw [runsUntilHalt_iff] at hr hq
  obtain ⟨m, f, rfl, hf⟩ := hr
  obtain ⟨n, g, rfl, hg⟩ := hq
  obtain hmn | hnm := Nat.le_total m n
  · obtain ⟨d, rfl⟩ := Nat.exists_eq_add_of_le hmn
    exact (run_add_of_stopped d hf).1.symm
  · obtain ⟨d, rfl⟩ := Nat.exists_eq_add_of_le hnm
    exact (run_add_of_stopped d hg).1

theorem runsUntilHalt_of_err {s t : State} {f : Option DecodeFault} (h : hostStep s = (t, .err f)) (r : RunResult) :
    RunsUntilHalt s r ↔ r = ⟨t, 0, some f⟩ := by
  have hfirst : RunsUntilHalt s ⟨t, 0, some f⟩ := ⟨1, run_succ_err h 0, rfl⟩
  exact ⟨fun hr => runsUntilHalt_unique hr hfirst, fun hr => hr ▸ hfirst⟩

theorem runsUntilHalt_of_ok {s t : State} {c : Nat} (h : hostStep s = (t, .ok c)) (r : RunResult) :
    RunsUntilHalt s r ↔ ∃ q, RunsUntilHalt t q ∧ r = q.addCycles c := by
  constructor
  · rintro ⟨n, rfl, hstop⟩
    cases n with
    | zero => cases hstop
    | succ n =>
      rw [run_succ_ok h] at hstop ⊢
      exact ⟨run n t, ⟨n, rfl, hstop⟩, rfl⟩
  · rintro ⟨q, ⟨n, rfl, hstop⟩, rfl⟩
    exact ⟨n + 1, run_succ_ok h n, hstop⟩

end Sys2Proof.Machine

/-- Settles O57, by the recursion of run on the number of steps. -/
theorem Sys2Proof.Proofs.runIsRepeatedStep : Obligations.RunIsRepeatedStep :=
  ⟨fun _ _ => hostStep_fst, fun _ => hostStep_halted, fun _ => rfl, fun _ _ _ h => run_succ_ok h 0,
    fun _ _ _ h => run_succ_err h 0, fun _ n _ => ⟨run_add_of_running n, fun _ => run_add_of_stopped n⟩⟩

/-- Settles O58: the cycles counted by the instruction are far below 2^64. -/
theorem Sys2Proof.Proofs.hostStepReturnsTheCyclesOfTheInstruction :
    Obligations.HostStepReturnsTheCyclesOfTheInstruction := by
  refine fun s hs => ⟨fun i rest hdec => ?_, hostStep_of_invalid hs⟩
  have ⟨hfetching, _, _⟩ := hs
  obtain ⟨t, ht, ⟨hl, -⟩, -⟩ := exec_blockStateKept i (fetched i.length s)
  have htotal := (exec_countsCycles i (fetched i.length s)).cycleTotal_eq ht
  obtain ⟨-, hbound, -⟩ := instrCycles_bounds i (fetched i.length s)
  exact congrArg Prod.snd (hostStep_ok ((step_of_decode hs hdec).trans ht) (hl.trans hfetching) htotal (by omega))

/-- Settles O31: the fetch of the opcode is all that such a step does before it raises the fault. -/
theorem Sys2Proof.Proofs.invalidOpcodeHalts : Obligations.InvalidOpcodeHalts := fun _ hs hinv =>
  ⟨step_of_invalid hs hinv, hostStep_of_invalid hs hinv⟩

/-- Settles O59, by the first step. -/
theorem Sys2Proof.Proofs.runUntilHaltEndsAtTheFirstErr : Obligations.RunUntilHaltEndsAtTheFirstErr := by
  refine fun s => ⟨fun _ _ => runsUntilHalt_unique, fun _ _ => runsUntilHalt_of_err, fun _ _ => runsUntilHalt_of_ok,
    fun r hr => ?_, fun hnever r hr => ?_⟩
  · obtain ⟨n, f, rfl, hf⟩ := (runsUntilHalt_iff s r).mp hr
    exact ⟨n, f, rfl, hf, (run_add_of_stopped 0 hf).2⟩
  · obtain ⟨n, f, rfl, hf⟩ := (runsUntilHalt_iff s r).mp hr
    cases (hnever n).symm.trans hf

/-- Settles O38: an operation writes memory in canonical form, sets an interrupt input or runs steps. -/
theorem Sys2Proof.Proofs.hostOperationsKeepInvariant : Obligations.HostOperationsKeepInvariant := by
  refine ⟨fun s addr v l level hs => ?_, fun s n hs => ⟨stateInv_hostStep hs, stateInv_run n hs⟩, ?_,
    fun _ => stateInv_hostReset, fun _ _ => stateInv_hostReset rfl⟩
  · have ⟨hwf, hrest⟩ := hs
    exact ⟨⟨Memory.wf_storeBytes l addr hwf, hrest⟩, ⟨Memory.wf_write_word addr v hwf, hrest⟩, hs, hs⟩
  · rintro s r hs ⟨n, rfl, -⟩
    exact stateInv_run n hs
end
